-- ==== Sys2Proof/Word.lean ====
section
/-! DEFINITION. The two word sizes of the core: 8-bit registers and Memory cells (R20, R50), 16-bit PC, addresses and
stack slots (R25, R36). -/

namespace Sys2Proof

/-- An 8-bit value: A, X, Y, SP, a Memory cell, an opcode or operand byte (R7 `XLEN`, `SPLEN`). -/
abbrev Byte := BitVec 8

/-- A 16-bit value: PC, a Memory address, a stack slot (R7 `PCLEN`, `SLOTLEN`). -/
abbrev Word := BitVec 16

end Sys2Proof
end

