-- ==== Sys2Proof/Syntax.lean ====
section
/-! DEFINITION. The instructions as syntax: one constructor of `Instr` per row of `opcode_table.json` (R80), each with
the operand its addressing mode reads; and, for each, its mnemonic and its operand form (R73). -/

namespace Sys2Proof

/-- The thirteen addressing modes (R73). -/
inductive Mode
  | impl | acc | imm | zp | zpX | zpY | abs | absX | absY | ind | indX | indY | rel
deriving DecidableEq, Repr

/-- The 56 mnemonics (R80), the seven flag instructions among them (D2). -/
inductive Mnemonic
  | lda | ldx | ldy | sta | stx | sty
  | tax | txa | tay | tya
  | inx | iny | dex | dey | inc | dec
  | adc | sbc | cmp | cpx | cpy
  | and | ora | eor | bit
  | asl | lsr | rol | ror
  | pha | pla | php | plp | txs | tsx
  | bpl | bmi | bvc | bvs | bcc | bcs | bne | beq
  | jmp | jsr | rts
  | brk | nop | rti | clc | sec | cli | sei | clv | cld | sed
deriving DecidableEq, Repr

/-- The operand forms that have an effective address, with their operand byte or 16-bit operand (R100, R104 to R112). -/
inductive Addr
  | zp (b : Byte) | zpX (b : Byte) | zpY (b : Byte)
  | abs (w : Word) | absX (w : Word) | absY (w : Word)
  | ind (w : Word) | indX (b : Byte) | indY (b : Byte)
deriving DecidableEq, Repr

/-- The addressing mode of a memory operand form. -/
def Addr.mode : Addr → Mode
  | .zp _ => .zp | .zpX _ => .zpX | .zpY _ => .zpY
  | .abs _ => .abs | .absX _ => .absX | .absY _ => .absY
  | .ind _ => .ind | .indX _ => .indX | .indY _ => .indY

/-- An instruction's operand: none (R101), A (R102), the literal byte (R103), a Memory operand (R104 to R112), or a
branch's signed offset (R113). -/
inductive Operand
  | impl | acc | imm (v : Byte) | mem (ad : Addr) | rel (off : Int)
deriving DecidableEq, Repr

/-- The addressing mode of an operand. -/
def Operand.mode : Operand → Mode
  | .impl => .impl | .acc => .acc | .imm _ => .imm | .mem ad => ad.mode | .rel _ => .rel

/-- The instructions: one constructor per row of `opcode_table.json`. `v` is the literal byte of Immediate mode, `b` a
zero-page operand byte, `w` the 16-bit operand `op16` (R74, R75), `off` the signed branch offset (R78). -/
inductive Instr
  /-- LDA # (R120), opcode A9. -/
  | ldaImm (v : Byte)
  /-- LDA zp (R120), opcode A5. -/
  | ldaZp (b : Byte)
  /-- LDA zp,X (R120), opcode B5. -/
  | ldaZpX (b : Byte)
  /-- LDA abs (R120), opcode AD. -/
  | ldaAbs (w : Word)
  /-- LDA abs,X (R120), opcode BD. -/
  | ldaAbsX (w : Word)
  /-- LDA abs,Y (R120), opcode B9. -/
  | ldaAbsY (w : Word)
  /-- LDA (zp,X) (R120), opcode A1. -/
  | ldaIndX (b : Byte)
  /-- LDA (zp),Y (R120), opcode B1. -/
  | ldaIndY (b : Byte)
  /-- LDX # (R121), opcode A2. -/
  | ldxImm (v : Byte)
  /-- LDX zp (R121), opcode A6. -/
  | ldxZp (b : Byte)
  /-- LDX zp,Y (R121), opcode B6. -/
  | ldxZpY (b : Byte)
  /-- LDX abs (R121), opcode AE. -/
  | ldxAbs (w : Word)
  /-- LDX abs,Y (R121), opcode BE. -/
  | ldxAbsY (w : Word)
  /-- LDY # (R122), opcode A0. -/
  | ldyImm (v : Byte)
  /-- LDY zp (R122), opcode A4. -/
  | ldyZp (b : Byte)
  /-- LDY zp,X (R122), opcode B4. -/
  | ldyZpX (b : Byte)
  /-- LDY abs (R122), opcode AC. -/
  | ldyAbs (w : Word)
  /-- LDY abs,X (R122), opcode BC. -/
  | ldyAbsX (w : Word)
  /-- STA zp (R123), opcode 85. -/
  | staZp (b : Byte)
  /-- STA zp,X (R123), opcode 95. -/
  | staZpX (b : Byte)
  /-- STA abs (R123), opcode 8D. -/
  | staAbs (w : Word)
  /-- STA abs,X (R123), opcode 9D. -/
  | staAbsX (w : Word)
  /-- STA abs,Y (R123), opcode 99. -/
  | staAbsY (w : Word)
  /-- STA (zp,X) (R123), opcode 81. -/
  | staIndX (b : Byte)
  /-- STA (zp),Y (R123), opcode 91. -/
  | staIndY (b : Byte)
  /-- STX zp (R124), opcode 86. -/
  | stxZp (b : Byte)
  /-- STX zp,Y (R124), opcode 96. -/
  | stxZpY (b : Byte)
  /-- STX abs (R124), opcode 8E. -/
  | stxAbs (w : Word)
  /-- STY zp (R125), opcode 84. -/
  | styZp (b : Byte)
  /-- STY zp,X (R125), opcode 94. -/
  | styZpX (b : Byte)
  /-- STY abs (R125), opcode 8C. -/
  | styAbs (w : Word)
  /-- TAX impl (R130), opcode AA. -/
  | tax
  /-- TXA impl (R131), opcode 8A. -/
  | txa
  /-- TAY impl (R132), opcode A8. -/
  | tay
  /-- TYA impl (R133), opcode 98. -/
  | tya
  /-- INX impl (R134), opcode E8. -/
  | inx
  /-- INY impl (R135), opcode C8. -/
  | iny
  /-- DEX impl (R136), opcode CA. -/
  | dex
  /-- DEY impl (R137), opcode 88. -/
  | dey
  /-- INC zp (R138), opcode E6. -/
  | incZp (b : Byte)
  /-- INC zp,X (R138), opcode F6. -/
  | incZpX (b : Byte)
  /-- INC abs (R138), opcode EE. -/
  | incAbs (w : Word)
  /-- INC abs,X (R138), opcode FE. -/
  | incAbsX (w : Word)
  /-- DEC zp (R139), opcode C6. -/
  | decZp (b : Byte)
  /-- DEC zp,X (R139), opcode D6. -/
  | decZpX (b : Byte)
  /-- DEC abs (R139), opcode CE. -/
  | decAbs (w : Word)
  /-- DEC abs,X (R139), opcode DE. -/
  | decAbsX (w : Word)
  /-- ADC # (R140), opcode 69. -/
  | adcImm (v : Byte)
  /-- ADC zp (R140), opcode 65. -/
  | adcZp (b : Byte)
  /-- ADC zp,X (R140), opcode 75. -/
  | adcZpX (b : Byte)
  /-- ADC abs (R140), opcode 6D. -/
  | adcAbs (w : Word)
  /-- ADC abs,X (R140), opcode 7D. -/
  | adcAbsX (w : Word)
  /-- ADC abs,Y (R140), opcode 79. -/
  | adcAbsY (w : Word)
  /-- ADC (zp,X) (R140), opcode 61. -/
  | adcIndX (b : Byte)
  /-- ADC (zp),Y (R140), opcode 71. -/
  | adcIndY (b : Byte)
  /-- SBC # (R141), opcode E9. -/
  | sbcImm (v : Byte)
  /-- SBC zp (R141), opcode E5. -/
  | sbcZp (b : Byte)
  /-- SBC zp,X (R141), opcode F5. -/
  | sbcZpX (b : Byte)
  /-- SBC abs (R141), opcode ED. -/
  | sbcAbs (w : Word)
  /-- SBC abs,X (R141), opcode FD. -/
  | sbcAbsX (w : Word)
  /-- SBC abs,Y (R141), opcode F9. -/
  | sbcAbsY (w : Word)
  /-- SBC (zp,X) (R141), opcode E1. -/
  | sbcIndX (b : Byte)
  /-- SBC (zp),Y (R141), opcode F1. -/
  | sbcIndY (b : Byte)
  /-- CMP # (R143), opcode C9. -/
  | cmpImm (v : Byte)
  /-- CMP zp (R143), opcode C5. -/
  | cmpZp (b : Byte)
  /-- CMP zp,X (R143), opcode D5. -/
  | cmpZpX (b : Byte)
  /-- CMP abs (R143), opcode CD. -/
  | cmpAbs (w : Word)
  /-- CMP abs,X (R143), opcode DD. -/
  | cmpAbsX (w : Word)
  /-- CMP abs,Y (R143), opcode D9. -/
  | cmpAbsY (w : Word)
  /-- CMP (zp,X) (R143), opcode C1. -/
  | cmpIndX (b : Byte)
  /-- CMP (zp),Y (R143), opcode D1. -/
  | cmpIndY (b : Byte)
  /-- CPX # (R144), opcode E0. -/
  | cpxImm (v : Byte)
  /-- CPX zp (R144), opcode E4. -/
  | cpxZp (b : Byte)
  /-- CPX abs (R144), opcode EC. -/
  | cpxAbs (w : Word)
  /-- CPY # (R145), opcode C0. -/
  | cpyImm (v : Byte)
  /-- CPY zp (R145), opcode C4. -/
  | cpyZp (b : Byte)
  /-- CPY abs (R145), opcode CC. -/
  | cpyAbs (w : Word)
  /-- AND # (R150), opcode 29. -/
  | andImm (v : Byte)
  /-- AND zp (R150), opcode 25. -/
  | andZp (b : Byte)
  /-- AND zp,X (R150), opcode 35. -/
  | andZpX (b : Byte)
  /-- AND abs (R150), opcode 2D. -/
  | andAbs (w : Word)
  /-- AND abs,X (R150), opcode 3D. -/
  | andAbsX (w : Word)
  /-- AND abs,Y (R150), opcode 39. -/
  | andAbsY (w : Word)
  /-- AND (zp,X) (R150), opcode 21. -/
  | andIndX (b : Byte)
  /-- AND (zp),Y (R150), opcode 31. -/
  | andIndY (b : Byte)
  /-- ORA # (R151), opcode 09. -/
  | oraImm (v : Byte)
  /-- ORA zp (R151), opcode 05. -/
  | oraZp (b : Byte)
  /-- ORA zp,X (R151), opcode 15. -/
  | oraZpX (b : Byte)
  /-- ORA abs (R151), opcode 0D. -/
  | oraAbs (w : Word)
  /-- ORA abs,X (R151), opcode 1D. -/
  | oraAbsX (w : Word)
  /-- ORA abs,Y (R151), opcode 19. -/
  | oraAbsY (w : Word)
  /-- ORA (zp,X) (R151), opcode 01. -/
  | oraIndX (b : Byte)
  /-- ORA (zp),Y (R151), opcode 11. -/
  | oraIndY (b : Byte)
  /-- EOR # (R152), opcode 49. -/
  | eorImm (v : Byte)
  /-- EOR zp (R152), opcode 45. -/
  | eorZp (b : Byte)
  /-- EOR zp,X (R152), opcode 55. -/
  | eorZpX (b : Byte)
  /-- EOR abs (R152), opcode 4D. -/
  | eorAbs (w : Word)
  /-- EOR abs,X (R152), opcode 5D. -/
  | eorAbsX (w : Word)
  /-- EOR abs,Y (R152), opcode 59. -/
  | eorAbsY (w : Word)
  /-- EOR (zp,X) (R152), opcode 41. -/
  | eorIndX (b : Byte)
  /-- EOR (zp),Y (R152), opcode 51. -/
  | eorIndY (b : Byte)
  /-- BIT zp (R153), opcode 24. -/
  | bitZp (b : Byte)
  /-- BIT abs (R153), opcode 2C. -/
  | bitAbs (w : Word)
  /-- ASL A (R160), opcode 0A. -/
  | aslAcc
  /-- ASL zp (R160), opcode 06. -/
  | aslZp (b : Byte)
  /-- ASL zp,X (R160), opcode 16. -/
  | aslZpX (b : Byte)
  /-- ASL abs (R160), opcode 0E. -/
  | aslAbs (w : Word)
  /-- ASL abs,X (R160), opcode 1E. -/
  | aslAbsX (w : Word)
  /-- LSR A (R161), opcode 4A. -/
  | lsrAcc
  /-- LSR zp (R161), opcode 46. -/
  | lsrZp (b : Byte)
  /-- LSR zp,X (R161), opcode 56. -/
  | lsrZpX (b : Byte)
  /-- LSR abs (R161), opcode 4E. -/
  | lsrAbs (w : Word)
  /-- LSR abs,X (R161), opcode 5E. -/
  | lsrAbsX (w : Word)
  /-- ROL A (R162), opcode 2A. -/
  | rolAcc
  /-- ROL zp (R162), opcode 26. -/
  | rolZp (b : Byte)
  /-- ROL zp,X (R162), opcode 36. -/
  | rolZpX (b : Byte)
  /-- ROL abs (R162), opcode 2E. -/
  | rolAbs (w : Word)
  /-- ROL abs,X (R162), opcode 3E. -/
  | rolAbsX (w : Word)
  /-- ROR A (R163), opcode 6A. -/
  | rorAcc
  /-- ROR zp (R163), opcode 66. -/
  | rorZp (b : Byte)
  /-- ROR zp,X (R163), opcode 76. -/
  | rorZpX (b : Byte)
  /-- ROR abs (R163), opcode 6E. -/
  | rorAbs (w : Word)
  /-- ROR abs,X (R163), opcode 7E. -/
  | rorAbsX (w : Word)
  /-- PHA impl (R172), opcode 48. -/
  | pha
  /-- PLA impl (R173), opcode 68. -/
  | pla
  /-- PHP impl (R174), opcode 08. -/
  | php
  /-- PLP impl (R175), opcode 28. -/
  | plp
  /-- TXS impl (R176), opcode 9A. -/
  | txs
  /-- TSX impl (R177), opcode BA. -/
  | tsx
  /-- BPL rel (R181), opcode 10. -/
  | bpl (off : Int)
  /-- BMI rel (R182), opcode 30. -/
  | bmi (off : Int)
  /-- BVC rel (R183), opcode 50. -/
  | bvc (off : Int)
  /-- BVS rel (R184), opcode 70. -/
  | bvs (off : Int)
  /-- BCC rel (R185), opcode 90. -/
  | bcc (off : Int)
  /-- BCS rel (R186), opcode B0. -/
  | bcs (off : Int)
  /-- BNE rel (R187), opcode D0. -/
  | bne (off : Int)
  /-- BEQ rel (R188), opcode F0. -/
  | beq (off : Int)
  /-- JMP abs (R190), opcode 4C. -/
  | jmpAbs (w : Word)
  /-- JMP (abs) (R191), opcode 6C. -/
  | jmpInd (w : Word)
  /-- JSR abs (R192), opcode 20. -/
  | jsr (w : Word)
  /-- RTS impl (R193), opcode 60. -/
  | rts
  /-- BRK impl (R200), opcode 00. -/
  | brk
  /-- NOP impl (R201), opcode EA. -/
  | nop
  /-- RTI impl (R202), opcode 40. -/
  | rti
  /-- CLC impl (R204), opcode 18. -/
  | clc
  /-- SEC impl (R205), opcode 38. -/
  | sec
  /-- CLI impl (R206), opcode 58. -/
  | cli
  /-- SEI impl (R207), opcode 78. -/
  | sei
  /-- CLV impl (R208), opcode B8. -/
  | clv
  /-- CLD impl (R209), opcode D8. -/
  | cld
  /-- SED impl (R210), opcode F8. -/
  | sed
deriving DecidableEq, Repr

/-- The mnemonic of each instruction (R80). -/
def Instr.mnemonic : Instr → Mnemonic
  | .ldaImm _ | .ldaZp _ | .ldaZpX _ | .ldaAbs _ | .ldaAbsX _ | .ldaAbsY _ | .ldaIndX _ | .ldaIndY _ => .lda
  | .ldxImm _ | .ldxZp _ | .ldxZpY _ | .ldxAbs _ | .ldxAbsY _ => .ldx
  | .ldyImm _ | .ldyZp _ | .ldyZpX _ | .ldyAbs _ | .ldyAbsX _ => .ldy
  | .staZp _ | .staZpX _ | .staAbs _ | .staAbsX _ | .staAbsY _ | .staIndX _ | .staIndY _ => .sta
  | .stxZp _ | .stxZpY _ | .stxAbs _ => .stx
  | .styZp _ | .styZpX _ | .styAbs _ => .sty
  | .tax => .tax
  | .txa => .txa
  | .tay => .tay
  | .tya => .tya
  | .inx => .inx
  | .iny => .iny
  | .dex => .dex
  | .dey => .dey
  | .incZp _ | .incZpX _ | .incAbs _ | .incAbsX _ => .inc
  | .decZp _ | .decZpX _ | .decAbs _ | .decAbsX _ => .dec
  | .adcImm _ | .adcZp _ | .adcZpX _ | .adcAbs _ | .adcAbsX _ | .adcAbsY _ | .adcIndX _ | .adcIndY _ => .adc
  | .sbcImm _ | .sbcZp _ | .sbcZpX _ | .sbcAbs _ | .sbcAbsX _ | .sbcAbsY _ | .sbcIndX _ | .sbcIndY _ => .sbc
  | .cmpImm _ | .cmpZp _ | .cmpZpX _ | .cmpAbs _ | .cmpAbsX _ | .cmpAbsY _ | .cmpIndX _ | .cmpIndY _ => .cmp
  | .cpxImm _ | .cpxZp _ | .cpxAbs _ => .cpx
  | .cpyImm _ | .cpyZp _ | .cpyAbs _ => .cpy
  | .andImm _ | .andZp _ | .andZpX _ | .andAbs _ | .andAbsX _ | .andAbsY _ | .andIndX _ | .andIndY _ => .and
  | .oraImm _ | .oraZp _ | .oraZpX _ | .oraAbs _ | .oraAbsX _ | .oraAbsY _ | .oraIndX _ | .oraIndY _ => .ora
  | .eorImm _ | .eorZp _ | .eorZpX _ | .eorAbs _ | .eorAbsX _ | .eorAbsY _ | .eorIndX _ | .eorIndY _ => .eor
  | .bitZp _ | .bitAbs _ => .bit
  | .aslAcc | .aslZp _ | .aslZpX _ | .aslAbs _ | .aslAbsX _ => .asl
  | .lsrAcc | .lsrZp _ | .lsrZpX _ | .lsrAbs _ | .lsrAbsX _ => .lsr
  | .rolAcc | .rolZp _ | .rolZpX _ | .rolAbs _ | .rolAbsX _ => .rol
  | .rorAcc | .rorZp _ | .rorZpX _ | .rorAbs _ | .rorAbsX _ => .ror
  | .pha => .pha
  | .pla => .pla
  | .php => .php
  | .plp => .plp
  | .txs => .txs
  | .tsx => .tsx
  | .bpl _ => .bpl
  | .bmi _ => .bmi
  | .bvc _ => .bvc
  | .bvs _ => .bvs
  | .bcc _ => .bcc
  | .bcs _ => .bcs
  | .bne _ => .bne
  | .beq _ => .beq
  | .jmpAbs _ | .jmpInd _ => .jmp
  | .jsr _ => .jsr
  | .rts => .rts
  | .brk => .brk
  | .nop => .nop
  | .rti => .rti
  | .clc => .clc
  | .sec => .sec
  | .cli => .cli
  | .sei => .sei
  | .clv => .clv
  | .cld => .cld
  | .sed => .sed

/-- The operand of each instruction, by its column in the table of R80. -/
def Instr.operand : Instr → Operand
  | .tax | .txa | .tay | .tya | .inx | .iny | .dex | .dey | .pha | .pla | .php | .plp | .txs | .tsx
  | .rts | .brk | .nop | .rti | .clc | .sec | .cli | .sei | .clv | .cld | .sed => .impl
  | .aslAcc | .lsrAcc | .rolAcc | .rorAcc => .acc
  | .ldaImm v | .ldxImm v | .ldyImm v | .adcImm v | .sbcImm v | .cmpImm v | .cpxImm v | .cpyImm v
  | .andImm v | .oraImm v | .eorImm v => .imm v
  | .ldaZp b | .ldxZp b | .ldyZp b | .staZp b | .stxZp b | .styZp b | .incZp b | .decZp b | .adcZp b
  | .sbcZp b | .cmpZp b | .cpxZp b | .cpyZp b | .andZp b | .oraZp b | .eorZp b | .bitZp b | .aslZp b
  | .lsrZp b | .rolZp b | .rorZp b => .mem (.zp b)
  | .ldaZpX b | .ldyZpX b | .staZpX b | .styZpX b | .incZpX b | .decZpX b | .adcZpX b | .sbcZpX b
  | .cmpZpX b | .andZpX b | .oraZpX b | .eorZpX b | .aslZpX b | .lsrZpX b | .rolZpX b | .rorZpX b => .mem (.zpX b)
  | .ldxZpY b | .stxZpY b => .mem (.zpY b)
  | .ldaAbs w | .ldxAbs w | .ldyAbs w | .staAbs w | .stxAbs w | .styAbs w | .incAbs w | .decAbs w
  | .adcAbs w | .sbcAbs w | .cmpAbs w | .cpxAbs w | .cpyAbs w | .andAbs w | .oraAbs w | .eorAbs w
  | .bitAbs w | .aslAbs w | .lsrAbs w | .rolAbs w | .rorAbs w | .jmpAbs w | .jsr w => .mem (.abs w)
  | .ldaAbsX w | .ldyAbsX w | .staAbsX w | .incAbsX w | .decAbsX w | .adcAbsX w | .sbcAbsX w
  | .cmpAbsX w | .andAbsX w | .oraAbsX w | .eorAbsX w | .aslAbsX w | .lsrAbsX w | .rolAbsX w
  | .rorAbsX w => .mem (.absX w)
  | .ldaAbsY w | .ldxAbsY w | .staAbsY w | .adcAbsY w | .sbcAbsY w | .cmpAbsY w | .andAbsY w
  | .oraAbsY w | .eorAbsY w => .mem (.absY w)
  | .jmpInd w => .mem (.ind w)
  | .ldaIndX b | .staIndX b | .adcIndX b | .sbcIndX b | .cmpIndX b | .andIndX b | .oraIndX b
  | .eorIndX b => .mem (.indX b)
  | .ldaIndY b | .staIndY b | .adcIndY b | .sbcIndY b | .cmpIndY b | .andIndY b | .oraIndY b
  | .eorIndY b => .mem (.indY b)
  | .bpl off | .bmi off | .bvc off | .bvs off | .bcc off | .bcs off | .bne off | .beq off => .rel off

/-- The addressing mode of each instruction (R80). -/
def Instr.mode (i : Instr) : Mode := i.operand.mode

end Sys2Proof
end

