-- ==== Sys2Proof/WellFormed.lean ====
section
/-! DEFINITION. What the types of `Syntax.lean` do not already say of an instruction: a branch offset lies in the range
of one two's-complement byte (R78). Which mnemonic takes which mode (R114) is in the constructors themselves, and the
other operands are bit vectors of their width (R74, R75). -/

namespace Sys2Proof

/-- The range of a branch offset: "two's-complement, range −128..127" (R78). -/
def offsetInRange (off : Int) : Bool := decide (-128 ≤ off ∧ off ≤ 127)

/-- An instruction is well formed when the operand bytes of its encoding can hold its operand. -/
def Instr.wellFormed : Instr → Bool
  | .bpl off | .bmi off | .bvc off | .bvs off | .bcc off | .bcs off | .bne off | .beq off => offsetInRange off
  | .ldaImm _ | .ldaZp _ | .ldaZpX _ | .ldaAbs _ | .ldaAbsX _ | .ldaAbsY _ | .ldaIndX _ | .ldaIndY _
  | .ldxImm _ | .ldxZp _ | .ldxZpY _ | .ldxAbs _ | .ldxAbsY _ | .ldyImm _ | .ldyZp _ | .ldyZpX _
  | .ldyAbs _ | .ldyAbsX _ | .staZp _ | .staZpX _ | .staAbs _ | .staAbsX _ | .staAbsY _ | .staIndX _
  | .staIndY _ | .stxZp _ | .stxZpY _ | .stxAbs _ | .styZp _ | .styZpX _ | .styAbs _ | .tax | .txa
  | .tay | .tya | .inx | .iny | .dex | .dey | .incZp _ | .incZpX _ | .incAbs _ | .incAbsX _ | .decZp _
  | .decZpX _ | .decAbs _ | .decAbsX _ | .adcImm _ | .adcZp _ | .adcZpX _ | .adcAbs _ | .adcAbsX _
  | .adcAbsY _ | .adcIndX _ | .adcIndY _ | .sbcImm _ | .sbcZp _ | .sbcZpX _ | .sbcAbs _ | .sbcAbsX _
  | .sbcAbsY _ | .sbcIndX _ | .sbcIndY _ | .cmpImm _ | .cmpZp _ | .cmpZpX _ | .cmpAbs _ | .cmpAbsX _
  | .cmpAbsY _ | .cmpIndX _ | .cmpIndY _ | .cpxImm _ | .cpxZp _ | .cpxAbs _ | .cpyImm _ | .cpyZp _
  | .cpyAbs _ | .andImm _ | .andZp _ | .andZpX _ | .andAbs _ | .andAbsX _ | .andAbsY _ | .andIndX _
  | .andIndY _ | .oraImm _ | .oraZp _ | .oraZpX _ | .oraAbs _ | .oraAbsX _ | .oraAbsY _ | .oraIndX _
  | .oraIndY _ | .eorImm _ | .eorZp _ | .eorZpX _ | .eorAbs _ | .eorAbsX _ | .eorAbsY _ | .eorIndX _
  | .eorIndY _ | .bitZp _ | .bitAbs _ | .aslAcc | .aslZp _ | .aslZpX _ | .aslAbs _ | .aslAbsX _
  | .lsrAcc | .lsrZp _ | .lsrZpX _ | .lsrAbs _ | .lsrAbsX _ | .rolAcc | .rolZp _ | .rolZpX _ | .rolAbs _
  | .rolAbsX _ | .rorAcc | .rorZp _ | .rorZpX _ | .rorAbs _ | .rorAbsX _ | .pha | .pla | .php | .plp
  | .txs | .tsx | .jmpAbs _ | .jmpInd _ | .jsr _ | .rts | .brk | .nop | .rti | .clc | .sec | .cli | .sei
  | .clv | .cld | .sed => true

end Sys2Proof
end

