-- ==== Sys2Proof/Decode.lean ====
section
/-! DEFINITION. Bytes to instructions and back: lengths and operand assembly (R70 to R78), the dispatch table
(R80, R81, R84, R88), the decoder, total on any three bytes, and the encoder. -/

namespace Sys2Proof

/-! ### Operand assembly -/

/-- `{hi, lo}`: the low byte comes from the first operand byte, the high byte from the second (R54, R75). -/
def wordOf (lo hi : Byte) : Word := hi ++ lo

/-- The low byte of a 16-bit value, `v[7:0]`. -/
def lowByte (w : Word) : Byte := w.extractLsb' 0 8

/-- The high byte of a 16-bit value, `v[15:8]`. -/
def highByte (w : Word) : Byte := w.extractLsb' 8 8

/-- `sext_8`: "values 0–127 are positive, 128–255 are negative (subtract 256)" (R78, C3). -/
def signedOffset (op1 : Byte) : Int := if op1.toNat ≤ 127 then op1.toNat else (op1.toNat : Int) - 256

/-- The operand byte that holds a branch offset: its low eight bits (R78). -/
def offsetByte (off : Int) : Byte := BitVec.ofInt 8 off

/-! ### Lengths -/

/-- The number of operand bytes of each mode (R73). -/
def Mode.operandBytes : Mode → Nat
  | .impl | .acc => 0
  | .imm | .zp | .zpX | .zpY | .indX | .indY | .rel => 1
  | .abs | .absX | .absY | .ind => 2

/-- `LEN`, the total length in bytes: opcode plus operand bytes (R70, R73). -/
def Mode.length (m : Mode) : Nat := 1 + m.operandBytes

/-! ### The dispatch table -/

/-- How a row of the table makes its instruction from the operand bytes of its mode (R71, R74, R75, R78). -/
inductive Maker
  | implied (i : Instr)
  | byte (mk : Byte → Instr)
  | word (mk : Word → Instr)
  | offset (mk : Int → Instr)

/-- The instruction a row makes from the two bytes after the opcode; a shorter format ignores the bytes it does not
have (R71, R72). -/
def Maker.build (op1 op2 : Byte) : Maker → Instr
  | .implied i => i
  | .byte mk => mk op1
  | .word mk => mk (wordOf op1 op2)
  | .offset mk => mk (signedOffset op1)

/-- One entry of the dispatch table: an opcode byte and its instruction descriptor (R88). -/
structure Row where
  opcode : Byte
  maker : Maker

/-- The rows of LDA, LDX, LDY, STA, STX, STY (R80). -/
def rowsLoadStore : List Row := [
  ⟨0xA9#8, .byte .ldaImm⟩,
  ⟨0xA5#8, .byte .ldaZp⟩,
  ⟨0xB5#8, .byte .ldaZpX⟩,
  ⟨0xAD#8, .word .ldaAbs⟩,
  ⟨0xBD#8, .word .ldaAbsX⟩,
  ⟨0xB9#8, .word .ldaAbsY⟩,
  ⟨0xA1#8, .byte .ldaIndX⟩,
  ⟨0xB1#8, .byte .ldaIndY⟩,
  ⟨0xA2#8, .byte .ldxImm⟩,
  ⟨0xA6#8, .byte .ldxZp⟩,
  ⟨0xB6#8, .byte .ldxZpY⟩,
  ⟨0xAE#8, .word .ldxAbs⟩,
  ⟨0xBE#8, .word .ldxAbsY⟩,
  ⟨0xA0#8, .byte .ldyImm⟩,
  ⟨0xA4#8, .byte .ldyZp⟩,
  ⟨0xB4#8, .byte .ldyZpX⟩,
  ⟨0xAC#8, .word .ldyAbs⟩,
  ⟨0xBC#8, .word .ldyAbsX⟩,
  ⟨0x85#8, .byte .staZp⟩,
  ⟨0x95#8, .byte .staZpX⟩,
  ⟨0x8D#8, .word .staAbs⟩,
  ⟨0x9D#8, .word .staAbsX⟩,
  ⟨0x99#8, .word .staAbsY⟩,
  ⟨0x81#8, .byte .staIndX⟩,
  ⟨0x91#8, .byte .staIndY⟩,
  ⟨0x86#8, .byte .stxZp⟩,
  ⟨0x96#8, .byte .stxZpY⟩,
  ⟨0x8E#8, .word .stxAbs⟩,
  ⟨0x84#8, .byte .styZp⟩,
  ⟨0x94#8, .byte .styZpX⟩,
  ⟨0x8C#8, .word .styAbs⟩]

/-- The rows of TAX, TXA, TAY, TYA (R80). -/
def rowsTransfer : List Row := [
  ⟨0xAA#8, .implied .tax⟩,
  ⟨0x8A#8, .implied .txa⟩,
  ⟨0xA8#8, .implied .tay⟩,
  ⟨0x98#8, .implied .tya⟩]

/-- The rows of INX, INY, DEX, DEY, INC, DEC (R80). -/
def rowsIncDec : List Row := [
  ⟨0xE8#8, .implied .inx⟩,
  ⟨0xC8#8, .implied .iny⟩,
  ⟨0xCA#8, .implied .dex⟩,
  ⟨0x88#8, .implied .dey⟩,
  ⟨0xE6#8, .byte .incZp⟩,
  ⟨0xF6#8, .byte .incZpX⟩,
  ⟨0xEE#8, .word .incAbs⟩,
  ⟨0xFE#8, .word .incAbsX⟩,
  ⟨0xC6#8, .byte .decZp⟩,
  ⟨0xD6#8, .byte .decZpX⟩,
  ⟨0xCE#8, .word .decAbs⟩,
  ⟨0xDE#8, .word .decAbsX⟩]

/-- The rows of ADC, SBC, CMP, CPX, CPY (R80). -/
def rowsArithmetic : List Row := [
  ⟨0x69#8, .byte .adcImm⟩,
  ⟨0x65#8, .byte .adcZp⟩,
  ⟨0x75#8, .byte .adcZpX⟩,
  ⟨0x6D#8, .word .adcAbs⟩,
  ⟨0x7D#8, .word .adcAbsX⟩,
  ⟨0x79#8, .word .adcAbsY⟩,
  ⟨0x61#8, .byte .adcIndX⟩,
  ⟨0x71#8, .byte .adcIndY⟩,
  ⟨0xE9#8, .byte .sbcImm⟩,
  ⟨0xE5#8, .byte .sbcZp⟩,
  ⟨0xF5#8, .byte .sbcZpX⟩,
  ⟨0xED#8, .word .sbcAbs⟩,
  ⟨0xFD#8, .word .sbcAbsX⟩,
  ⟨0xF9#8, .word .sbcAbsY⟩,
  ⟨0xE1#8, .byte .sbcIndX⟩,
  ⟨0xF1#8, .byte .sbcIndY⟩,
  ⟨0xC9#8, .byte .cmpImm⟩,
  ⟨0xC5#8, .byte .cmpZp⟩,
  ⟨0xD5#8, .byte .cmpZpX⟩,
  ⟨0xCD#8, .word .cmpAbs⟩,
  ⟨0xDD#8, .word .cmpAbsX⟩,
  ⟨0xD9#8, .word .cmpAbsY⟩,
  ⟨0xC1#8, .byte .cmpIndX⟩,
  ⟨0xD1#8, .byte .cmpIndY⟩,
  ⟨0xE0#8, .byte .cpxImm⟩,
  ⟨0xE4#8, .byte .cpxZp⟩,
  ⟨0xEC#8, .word .cpxAbs⟩,
  ⟨0xC0#8, .byte .cpyImm⟩,
  ⟨0xC4#8, .byte .cpyZp⟩,
  ⟨0xCC#8, .word .cpyAbs⟩]

/-- The rows of AND, ORA, EOR, BIT (R80). -/
def rowsBitwise : List Row := [
  ⟨0x29#8, .byte .andImm⟩,
  ⟨0x25#8, .byte .andZp⟩,
  ⟨0x35#8, .byte .andZpX⟩,
  ⟨0x2D#8, .word .andAbs⟩,
  ⟨0x3D#8, .word .andAbsX⟩,
  ⟨0x39#8, .word .andAbsY⟩,
  ⟨0x21#8, .byte .andIndX⟩,
  ⟨0x31#8, .byte .andIndY⟩,
  ⟨0x09#8, .byte .oraImm⟩,
  ⟨0x05#8, .byte .oraZp⟩,
  ⟨0x15#8, .byte .oraZpX⟩,
  ⟨0x0D#8, .word .oraAbs⟩,
  ⟨0x1D#8, .word .oraAbsX⟩,
  ⟨0x19#8, .word .oraAbsY⟩,
  ⟨0x01#8, .byte .oraIndX⟩,
  ⟨0x11#8, .byte .oraIndY⟩,
  ⟨0x49#8, .byte .eorImm⟩,
  ⟨0x45#8, .byte .eorZp⟩,
  ⟨0x55#8, .byte .eorZpX⟩,
  ⟨0x4D#8, .word .eorAbs⟩,
  ⟨0x5D#8, .word .eorAbsX⟩,
  ⟨0x59#8, .word .eorAbsY⟩,
  ⟨0x41#8, .byte .eorIndX⟩,
  ⟨0x51#8, .byte .eorIndY⟩,
  ⟨0x24#8, .byte .bitZp⟩,
  ⟨0x2C#8, .word .bitAbs⟩]

/-- The rows of ASL, LSR, ROL, ROR (R80). -/
def rowsShift : List Row := [
  ⟨0x0A#8, .implied .aslAcc⟩,
  ⟨0x06#8, .byte .aslZp⟩,
  ⟨0x16#8, .byte .aslZpX⟩,
  ⟨0x0E#8, .word .aslAbs⟩,
  ⟨0x1E#8, .word .aslAbsX⟩,
  ⟨0x4A#8, .implied .lsrAcc⟩,
  ⟨0x46#8, .byte .lsrZp⟩,
  ⟨0x56#8, .byte .lsrZpX⟩,
  ⟨0x4E#8, .word .lsrAbs⟩,
  ⟨0x5E#8, .word .lsrAbsX⟩,
  ⟨0x2A#8, .implied .rolAcc⟩,
  ⟨0x26#8, .byte .rolZp⟩,
  ⟨0x36#8, .byte .rolZpX⟩,
  ⟨0x2E#8, .word .rolAbs⟩,
  ⟨0x3E#8, .word .rolAbsX⟩,
  ⟨0x6A#8, .implied .rorAcc⟩,
  ⟨0x66#8, .byte .rorZp⟩,
  ⟨0x76#8, .byte .rorZpX⟩,
  ⟨0x6E#8, .word .rorAbs⟩,
  ⟨0x7E#8, .word .rorAbsX⟩]

/-- The rows of PHA, PLA, PHP, PLP, TXS, TSX (R80). -/
def rowsStack : List Row := [
  ⟨0x48#8, .implied .pha⟩,
  ⟨0x68#8, .implied .pla⟩,
  ⟨0x08#8, .implied .php⟩,
  ⟨0x28#8, .implied .plp⟩,
  ⟨0x9A#8, .implied .txs⟩,
  ⟨0xBA#8, .implied .tsx⟩]

/-- The rows of BPL, BMI, BVC, BVS, BCC, BCS, BNE, BEQ (R80). -/
def rowsBranch : List Row := [
  ⟨0x10#8, .offset .bpl⟩,
  ⟨0x30#8, .offset .bmi⟩,
  ⟨0x50#8, .offset .bvc⟩,
  ⟨0x70#8, .offset .bvs⟩,
  ⟨0x90#8, .offset .bcc⟩,
  ⟨0xB0#8, .offset .bcs⟩,
  ⟨0xD0#8, .offset .bne⟩,
  ⟨0xF0#8, .offset .beq⟩]

/-- The rows of JMP, JSR, RTS (R80). -/
def rowsJump : List Row := [
  ⟨0x4C#8, .word .jmpAbs⟩,
  ⟨0x6C#8, .word .jmpInd⟩,
  ⟨0x20#8, .word .jsr⟩,
  ⟨0x60#8, .implied .rts⟩]

/-- The rows of BRK, NOP, RTI, CLC, SEC, CLI, SEI, CLV, CLD, SED (R80). -/
def rowsSystem : List Row := [
  ⟨0x00#8, .implied .brk⟩,
  ⟨0xEA#8, .implied .nop⟩,
  ⟨0x40#8, .implied .rti⟩,
  ⟨0x18#8, .implied .clc⟩,
  ⟨0x38#8, .implied .sec⟩,
  ⟨0x58#8, .implied .cli⟩,
  ⟨0x78#8, .implied .sei⟩,
  ⟨0xB8#8, .implied .clv⟩,
  ⟨0xD8#8, .implied .cld⟩,
  ⟨0xF8#8, .implied .sed⟩]

/-- The dispatch table: "exactly one descriptor per recognized opcode" (R80, R88). Log 5. -/
def dispatchTable : List Row :=
  rowsLoadStore ++ rowsTransfer ++ rowsIncDec ++ rowsArithmetic ++ rowsBitwise ++
    rowsShift ++ rowsStack ++ rowsBranch ++ rowsJump ++ rowsSystem

/-- `dispatch(opcode) -> InstructionDescriptor | NotFound` (R88). -/
def dispatch (opcode : Byte) : Option Maker :=
  (dispatchTable.find? (fun row => row.opcode == opcode)).map Row.maker

/-! ### Decoder -/

/-- What the decoder answers: the instruction, or the opcode byte that has no descriptor (R84). -/
inductive Decoded
  | instr (i : Instr)
  | unknownOpcode (opcode : Byte)
deriving DecidableEq, Repr

/-- Decode the instruction whose bytes start with `opcode`; `op1` and `op2` are the two bytes that follow it in Memory.
The opcode byte alone decides (R72); an opcode byte with no descriptor is rejected by name (R84). -/
def decode (opcode op1 op2 : Byte) : Decoded :=
  match dispatch opcode with
  | some mk => .instr (mk.build op1 op2)
  | none => .unknownOpcode opcode

/-- Byte `k` of an instruction whose bits are numbered from the first byte's bit 0. -/
def tableByte (w k : Nat) : Byte := BitVec.ofNat 8 (w / 2 ^ (8 * k))

/-- The instruction the decoder reads from an instruction word of `opcode_table.json`: the first byte is bits 7..0, the
second bits 15..8, the third bits 23..16, and every bit from `nbits` up is 0. -/
def decodeTableWord (nbits w : Nat) : Option Instr :=
  let bits := w % 2 ^ nbits
  match decode (tableByte bits 0) (tableByte bits 1) (tableByte bits 2) with
  | .instr i => some i
  | .unknownOpcode _ => none

/-! ### Encoder -/

/-- The opcode byte of each instruction (the column of R80). -/
def Instr.opcode : Instr → Byte
  | .ldaImm _ => 0xA9#8
  | .ldaZp _ => 0xA5#8
  | .ldaZpX _ => 0xB5#8
  | .ldaAbs _ => 0xAD#8
  | .ldaAbsX _ => 0xBD#8
  | .ldaAbsY _ => 0xB9#8
  | .ldaIndX _ => 0xA1#8
  | .ldaIndY _ => 0xB1#8
  | .ldxImm _ => 0xA2#8
  | .ldxZp _ => 0xA6#8
  | .ldxZpY _ => 0xB6#8
  | .ldxAbs _ => 0xAE#8
  | .ldxAbsY _ => 0xBE#8
  | .ldyImm _ => 0xA0#8
  | .ldyZp _ => 0xA4#8
  | .ldyZpX _ => 0xB4#8
  | .ldyAbs _ => 0xAC#8
  | .ldyAbsX _ => 0xBC#8
  | .staZp _ => 0x85#8
  | .staZpX _ => 0x95#8
  | .staAbs _ => 0x8D#8
  | .staAbsX _ => 0x9D#8
  | .staAbsY _ => 0x99#8
  | .staIndX _ => 0x81#8
  | .staIndY _ => 0x91#8
  | .stxZp _ => 0x86#8
  | .stxZpY _ => 0x96#8
  | .stxAbs _ => 0x8E#8
  | .styZp _ => 0x84#8
  | .styZpX _ => 0x94#8
  | .styAbs _ => 0x8C#8
  | .tax => 0xAA#8
  | .txa => 0x8A#8
  | .tay => 0xA8#8
  | .tya => 0x98#8
  | .inx => 0xE8#8
  | .iny => 0xC8#8
  | .dex => 0xCA#8
  | .dey => 0x88#8
  | .incZp _ => 0xE6#8
  | .incZpX _ => 0xF6#8
  | .incAbs _ => 0xEE#8
  | .incAbsX _ => 0xFE#8
  | .decZp _ => 0xC6#8
  | .decZpX _ => 0xD6#8
  | .decAbs _ => 0xCE#8
  | .decAbsX _ => 0xDE#8
  | .adcImm _ => 0x69#8
  | .adcZp _ => 0x65#8
  | .adcZpX _ => 0x75#8
  | .adcAbs _ => 0x6D#8
  | .adcAbsX _ => 0x7D#8
  | .adcAbsY _ => 0x79#8
  | .adcIndX _ => 0x61#8
  | .adcIndY _ => 0x71#8
  | .sbcImm _ => 0xE9#8
  | .sbcZp _ => 0xE5#8
  | .sbcZpX _ => 0xF5#8
  | .sbcAbs _ => 0xED#8
  | .sbcAbsX _ => 0xFD#8
  | .sbcAbsY _ => 0xF9#8
  | .sbcIndX _ => 0xE1#8
  | .sbcIndY _ => 0xF1#8
  | .cmpImm _ => 0xC9#8
  | .cmpZp _ => 0xC5#8
  | .cmpZpX _ => 0xD5#8
  | .cmpAbs _ => 0xCD#8
  | .cmpAbsX _ => 0xDD#8
  | .cmpAbsY _ => 0xD9#8
  | .cmpIndX _ => 0xC1#8
  | .cmpIndY _ => 0xD1#8
  | .cpxImm _ => 0xE0#8
  | .cpxZp _ => 0xE4#8
  | .cpxAbs _ => 0xEC#8
  | .cpyImm _ => 0xC0#8
  | .cpyZp _ => 0xC4#8
  | .cpyAbs _ => 0xCC#8
  | .andImm _ => 0x29#8
  | .andZp _ => 0x25#8
  | .andZpX _ => 0x35#8
  | .andAbs _ => 0x2D#8
  | .andAbsX _ => 0x3D#8
  | .andAbsY _ => 0x39#8
  | .andIndX _ => 0x21#8
  | .andIndY _ => 0x31#8
  | .oraImm _ => 0x09#8
  | .oraZp _ => 0x05#8
  | .oraZpX _ => 0x15#8
  | .oraAbs _ => 0x0D#8
  | .oraAbsX _ => 0x1D#8
  | .oraAbsY _ => 0x19#8
  | .oraIndX _ => 0x01#8
  | .oraIndY _ => 0x11#8
  | .eorImm _ => 0x49#8
  | .eorZp _ => 0x45#8
  | .eorZpX _ => 0x55#8
  | .eorAbs _ => 0x4D#8
  | .eorAbsX _ => 0x5D#8
  | .eorAbsY _ => 0x59#8
  | .eorIndX _ => 0x41#8
  | .eorIndY _ => 0x51#8
  | .bitZp _ => 0x24#8
  | .bitAbs _ => 0x2C#8
  | .aslAcc => 0x0A#8
  | .aslZp _ => 0x06#8
  | .aslZpX _ => 0x16#8
  | .aslAbs _ => 0x0E#8
  | .aslAbsX _ => 0x1E#8
  | .lsrAcc => 0x4A#8
  | .lsrZp _ => 0x46#8
  | .lsrZpX _ => 0x56#8
  | .lsrAbs _ => 0x4E#8
  | .lsrAbsX _ => 0x5E#8
  | .rolAcc => 0x2A#8
  | .rolZp _ => 0x26#8
  | .rolZpX _ => 0x36#8
  | .rolAbs _ => 0x2E#8
  | .rolAbsX _ => 0x3E#8
  | .rorAcc => 0x6A#8
  | .rorZp _ => 0x66#8
  | .rorZpX _ => 0x76#8
  | .rorAbs _ => 0x6E#8
  | .rorAbsX _ => 0x7E#8
  | .pha => 0x48#8
  | .pla => 0x68#8
  | .php => 0x08#8
  | .plp => 0x28#8
  | .txs => 0x9A#8
  | .tsx => 0xBA#8
  | .bpl _ => 0x10#8
  | .bmi _ => 0x30#8
  | .bvc _ => 0x50#8
  | .bvs _ => 0x70#8
  | .bcc _ => 0x90#8
  | .bcs _ => 0xB0#8
  | .bne _ => 0xD0#8
  | .beq _ => 0xF0#8
  | .jmpAbs _ => 0x4C#8
  | .jmpInd _ => 0x6C#8
  | .jsr _ => 0x20#8
  | .rts => 0x60#8
  | .brk => 0x00#8
  | .nop => 0xEA#8
  | .rti => 0x40#8
  | .clc => 0x18#8
  | .sec => 0x38#8
  | .cli => 0x58#8
  | .sei => 0x78#8
  | .clv => 0xB8#8
  | .cld => 0xD8#8
  | .sed => 0xF8#8

/-- The operand bytes of an operand, in Memory order: one byte, or low byte then high byte (R71, R74, R75, R78). -/
def Addr.bytes : Addr → List Byte
  | .zp b | .zpX b | .zpY b | .indX b | .indY b => [b]
  | .abs w | .absX w | .absY w | .ind w => [lowByte w, highByte w]

/-- The operand bytes that follow the opcode (R71). -/
def Operand.bytes : Operand → List Byte
  | .impl | .acc => []
  | .imm v => [v]
  | .mem ad => ad.bytes
  | .rel off => [offsetByte off]

/-- The bytes of an instruction: its opcode byte, then its operand bytes (R70, R71). -/
def encode (i : Instr) : List Byte := i.opcode :: i.operand.bytes

end Sys2Proof
end

