-- ==== Sys2Proof/Config.lean ====
section
/-! DEFINITION. The parameters of `00_scope.md` R7 that the model does not fix in a type: the default addresses, what a
Memory byte holds before anything has written it, and the one parameter the spec leaves OPEN. -/

namespace Sys2Proof.Config

/-- `LOAD_ADDR`: where the host loads the program "in the reference configuration" (R7, R63). -/
def loadAddr : Word := 0x0600#16

/-- `START_PC`: the value PC takes at reset, "defaults to the load address" (R7, R240). Log 2. -/
def startPc : Word := loadAddr

/-- What a Memory address reads as when nothing is listed for it: Memory is all 0x00 at power-on (R242, D18). Log 3. -/
def unlistedByte : Byte := 0x00#8

/-- `INJECT_ADDRS`: the two zero-page addresses of the optional diagnostic byte injection, or none. The spec leaves it
OPEN (R64, D21, U18), so it has no body here and no proof can see its value. Log 16. -/
opaque injectAddrs : Option (Byte × Byte)

end Sys2Proof.Config
end

