-- ==== Sys2Proof/Machine/State.lean ====
section
/-! DEFINITION. The whole architectural state of one core instance (`10_state.md`), the reasons a step can stop, and the
state at power-on. -/

namespace Sys2Proof.Machine

/-- The seven status flags, "each a single bit", each stored on its own (R27). -/
structure Flags where
  /-- Carry. -/
  c : Bool
  /-- Zero. -/
  z : Bool
  /-- Interrupt-disable; it gates nothing (R224). -/
  i : Bool
  /-- Decimal; it changes no arithmetic (R142). -/
  d : Bool
  /-- Break. -/
  b : Bool
  /-- Overflow. -/
  v : Bool
  /-- Negative. -/
  n : Bool
deriving DecidableEq, Repr

/-- The run state `RUN` (R38). -/
inductive RunState
  | running
  | halted
deriving DecidableEq, Repr

/-- The cause a halt reports (R41, R220); `haltCauseCode` gives its number. Log 15. -/
inductive HaltCause
  | none
  | unknownOpcode
  | softwareBreak
deriving DecidableEq, Repr

/-- The call/return stack: 256 slots of 16 bits, not part of Memory (R36). -/
abbrev Stack := Vector Word 256

/-- Memory: the addresses that hold something other than `Config.unlistedByte`, with their bytes (R43, R50). -/
abbrev Memory := List Host.Cell

/-- The number of Memory addresses, `MEM_SIZE` (R7, R50). -/
def memSize : Nat := 65536

/-- `m` lists addresses from `lo` up, strictly rising, below `memSize`, none with the byte an unlisted address has. -/
def Memory.wfFrom (lo : Nat) : Memory → Bool
  | [] => true
  | (k, v) :: m => decide (lo ≤ k) && decide (k < memSize) && decide (v ≠ Config.unlistedByte) && Memory.wfFrom (k + 1) m

/-- The canonical form: equal memories are equal lists. -/
def Memory.wf (m : Memory) : Bool := Memory.wfFrom 0 m

/-- The state of the core: "Nothing else is state" (R44). -/
structure State where
  /-- The accumulator A (R20, R21). -/
  a : Byte
  /-- The index register X (R20, R22). -/
  x : Byte
  /-- The index register Y (R20, R23). -/
  y : Byte
  /-- The stack pointer SP: the index of the slot most recently pushed (R24). -/
  sp : Byte
  /-- The program counter PC (R25). -/
  pc : Word
  /-- The seven flags (R27). -/
  flags : Flags
  /-- STACK[0..255] (R36). -/
  stack : Stack
  /-- MEM[0x0000..0xFFFF] (R43). -/
  mem : Memory
  /-- RUN (R38). -/
  run : RunState
  /-- HALT_CAUSE (R41). -/
  haltCause : HaltCause
  /-- HALT_PC (R42). -/
  haltPc : Word
  /-- HALT_OPCODE (R42). -/
  haltOpcode : Byte
deriving DecidableEq, Repr

/-- The reasons the machine stops with no next state. There are none: both halts of the core are next states
(R220, R226), a Step while Halted is a Step that changes nothing (R91), and "Nothing else is an exception" (R222).
Log 14. -/
inductive Fault
deriving DecidableEq, Repr

/-- The reasons an instruction is given no meaning. -/
inductive Refusal
  /-- Raised by `exec` alone, for an instruction whose arm has no meaning yet. Safe: the model stops where the hardware
  goes on. No arm raises it now. -/
  | notModelled (mnemonic : String)
deriving DecidableEq, Repr

/-- All seven flags 0 (R45, R240, D16). Log 4. -/
def Flags.reset : Flags :=
  { c := false, z := false, i := false, d := false, b := false, v := false, n := false }

/-- The state at power-on, before the host has loaded a program (R45, R242), with `START_PC` at its default (R7).
Logs 1 to 4. -/
def State.reset : State where
  a := 0x00#8
  x := 0x00#8
  y := 0x00#8
  sp := 0x00#8
  pc := Config.startPc
  flags := Flags.reset
  stack := Vector.replicate 256 0x0000#16
  mem := []
  run := .running
  haltCause := .none
  haltPc := 0x0000#16
  haltOpcode := 0x00#8

end Sys2Proof.Machine
end

