-- ==== Sys2Proof/Machine/Flags.lean ====
section
/-! DEFINITION. Every flag computation of the spec: `SetZN` (R30), the adder (R146), the compares (R143 to R145), BIT
(R153), the one-bit shifts (R160 to R163), and the status byte's codec (R32 to R34). -/

namespace Sys2Proof.Machine

/-- A flag as a number, 0 or 1. -/
def bit (f : Bool) : Nat := if f then 1 else 0

/-- `SetZN(v)`: `Z <- (v == 0); N <- v[7]` (R30). -/
def Flags.setZN (f : Flags) (v : Byte) : Flags :=
  { f with z := decide (v = 0x00#8), n := v[7] }

/-- `AddCore(a, m, c)`: the 8-bit sum, the carry out of bit 7, and signed overflow (R146). -/
def addCore (a m : Byte) (c : Bool) : Byte × Bool × Bool :=
  let t := a.toNat + m.toNat + bit c
  let r := BitVec.ofNat 8 t
  (r, decide (256 ≤ t), decide ((a ^^^ r) &&& (m ^^^ r) &&& 0x80#8 ≠ 0x00#8))

/-- The flags after ADC or SBC: C and V from the adder, Z and N from its result (R140, R141). -/
def Flags.afterAdd (f : Flags) (sum : Byte × Bool × Bool) : Flags :=
  { f.setZN sum.1 with c := sum.2.1, v := sum.2.2 }

/-- The flags after a compare of a register with M, as unsigned 8-bit values (R143, R144, R145). -/
def Flags.afterCompare (f : Flags) (reg m : Byte) : Flags :=
  { f with c := decide (m.toNat ≤ reg.toNat), z := decide (reg = m), n := (reg - m)[7] }

/-- The flags after BIT: Z from `A & M`, N and V from bits 7 and 6 of M itself (R153). -/
def Flags.afterBit (f : Flags) (a m : Byte) : Flags :=
  { f with z := decide (a &&& m = 0x00#8), n := m[7], v := m[6] }

/-- The flags after a shift or rotate: C is the bit shifted out, Z and N come from the result (R160 to R163). -/
def Flags.afterShift (f : Flags) (res : Byte × Bool) : Flags :=
  { f.setZN res.1 with c := res.2 }

/-- ASL: the shifted value and the bit shifted out (R160). -/
def aslCore (v : Byte) : Byte × Bool := (v <<< 1, v[7])

/-- LSR: the shifted value and the bit shifted out (R161). -/
def lsrCore (v : Byte) : Byte × Bool := (v >>> 1, v[0])

/-- ROL: the old Carry enters bit 0, bit 7 goes out (R162). -/
def rolCore (v : Byte) (cIn : Bool) : Byte × Bool :=
  ((v <<< 1) ||| BitVec.ofNat 8 (bit cIn), v[7])

/-- ROR: the old Carry enters bit 7, bit 0 goes out (R163). -/
def rorCore (v : Byte) (cIn : Bool) : Byte × Bool :=
  ((v >>> 1) ||| (BitVec.ofNat 8 (bit cIn) <<< 7), v[0])

/-- `P_BIT5`: what bit 5 of the packed status byte is (R7, R32, D4). Log 7. -/
def statusBit5 : Bool := true

/-- `Pack()`: the status byte `{N, V, 1, B, D, I, Z, C}` (R33). -/
def Flags.pack (f : Flags) : Byte :=
  BitVec.ofNat 8 (bit f.n * 128 + bit f.v * 64 + bit statusBit5 * 32 + bit f.b * 16 + bit f.d * 8 + bit f.i * 4 +
    bit f.z * 2 + bit f.c)

/-- `Unpack(p)`: all seven flags from the byte; bit 5 is discarded (R34). -/
def Flags.unpack (p : Byte) : Flags where
  c := p[0]
  z := p[1]
  i := p[2]
  d := p[3]
  b := p[4]
  v := p[6]
  n := p[7]

end Sys2Proof.Machine
end

