-- ==== Sys2Proof/Machine/Ops.lean ====
section
/-! DEFINITION. The named operations over registers, Memory and the stack, entering a halt (the core's only exceptions),
and RESET, the only way out of one. -/

namespace Sys2Proof.Machine

/-! ### Memory as a list -/

/-- The byte at a Memory address. -/
def Memory.read : Memory → Nat → Byte
  | [], _ => Config.unlistedByte
  | (k, v) :: m, addr => if k = addr then v else Memory.read m addr

/-- `m` without any entry for `addr`. -/
def Memory.erase : Memory → Nat → Memory
  | [], _ => []
  | (k, v) :: m, addr => if k = addr then Memory.erase m addr else (k, v) :: Memory.erase m addr

/-- `m` with an entry for `addr` put before the first larger address. -/
def Memory.insert : Memory → Nat → Byte → Memory
  | [], addr, v => [(addr, v)]
  | (k, u) :: m, addr, v => if addr < k then (addr, v) :: (k, u) :: m else (k, u) :: Memory.insert m addr v

/-- Write a byte: an address that then holds what an unlisted one reads as is not listed. -/
def Memory.write (m : Memory) (addr : Nat) (v : Byte) : Memory :=
  if v = Config.unlistedByte then m.erase addr else (m.erase addr).insert addr v

/-! ### The access primitives -/

/-- `MemRead(addr, 1)`; a 16-bit address is already "modulo the address space size" (R52). -/
def State.memRead (s : State) (addr : Word) : Byte := s.mem.read addr.toNat

/-- `MemWrite(addr, 1, v)` (R53). -/
def State.memWrite (s : State) (addr : Word) (v : Byte) : State :=
  { s with mem := s.mem.write addr.toNat v }

/-- `MemRead16(addr)`: low byte at `addr`, high byte at the next address modulo 65536, with no carry suppression
(R55, D14). Log 12. -/
def State.memRead16 (s : State) (addr : Word) : Word := wordOf (s.memRead addr) (s.memRead (addr + 1))

/-- `zext_16(v)` (`00_scope.md` section 5). -/
def zext16 (v : Byte) : Word := v.setWidth 16

/-- `MemRead16zp(p)`: both bytes of the pointer come from the zero page (R56, D15). Log 12. -/
def State.memRead16zp (s : State) (p : Byte) : Word :=
  wordOf (s.memRead (zext16 p)) (s.memRead (zext16 (p + 1)))

/-! ### Registers and flags -/

/-- `A <- v` (R20). -/
def State.setA (s : State) (v : Byte) : State := { s with a := v }

/-- `X <- v` (R20). -/
def State.setX (s : State) (v : Byte) : State := { s with x := v }

/-- `Y <- v` (R20). -/
def State.setY (s : State) (v : Byte) : State := { s with y := v }

/-- `SP <- v` (R24). -/
def State.setSp (s : State) (v : Byte) : State := { s with sp := v }

/-- `PC <- target` (R26). -/
def State.setPc (s : State) (target : Word) : State := { s with pc := target }

/-- Write the flags. -/
def State.setFlags (s : State) (f : Flags) : State := { s with flags := f }

/-- `SetZN(v)` on the state (R30). -/
def State.setZN (s : State) (v : Byte) : State := s.setFlags (s.flags.setZN v)

/-- The Step's default advance: `PC <- (PC + LEN) mod 65536` (R26, R90). -/
def State.advance (s : State) (mode : Mode) : State := s.setPc (s.pc + BitVec.ofNat 16 mode.length)

/-! ### The stack primitives -/

/-- `STACK[i]` (R36). -/
def State.slot (s : State) (i : Byte) : Word := s.stack[i.toNat]'i.isLt

/-- `STACK[i] <- v` (R36). -/
def State.setSlot (s : State) (i : Byte) (v : Word) : State :=
  { s with stack := s.stack.set i.toNat v i.isLt }

/-- `STACK_TOP`, the last slot's index (R7, D6). Log 8. -/
def stackTop : Byte := 0xFF#8

/-- SP as a push leaves it: one more, clamped at `STACK_TOP` (R170, D7). Log 8. -/
def pushSp (sp : Byte) : Byte := if sp.toNat < stackTop.toNat then sp + 1 else sp

/-- SP as a pop leaves it: one less, clamped at 0 (R171, D7). Log 8. -/
def popSp (sp : Byte) : Byte := if 0 < sp.toNat then sp - 1 else sp

/-- `Push16(v)`: "push increments the stack pointer before writing"; at the clamp the write still happens (R170). -/
def State.push16 (s : State) (v : Word) : State := (s.setSp (pushSp s.sp)).setSlot (pushSp s.sp) v

/-- The value `Pop16()` returns: the slot SP names (R171). -/
def State.popValue (s : State) : Word := s.slot s.sp

/-- The state `Pop16()` leaves: SP lowered, the slot read not cleared (R171). -/
def State.popped (s : State) : State := s.setSp (popSp s.sp)

/-! ### Fetch -/

/-- The opcode byte of the current Step and the two bytes after it, each address modulo 65536 (R71, R74, R75, R90).
All three are read even for a shorter instruction, which no one can observe (R52, R67). Log 18. -/
def State.fetch (s : State) : Byte × Byte × Byte :=
  (s.memRead s.pc, s.memRead (s.pc + 1), s.memRead (s.pc + 2))

/-! ### Halts and RESET -/

/-- `raise Halt(cause)`: the report registers take the address of the current opcode byte, that byte and the cause;
RUN becomes Halted; PC and everything else stay (R226). `opcode` is the byte fetched at step (1) of the Step. -/
def raiseHalt (cause : HaltCause) (opcode : Byte) (s : State) : State :=
  { s with haltPc := s.pc, haltOpcode := opcode, haltCause := cause, run := .halted }

/-- A RESET event with `START_PC` at `startPc`: the only exit from Halted; Memory and the stack slots keep what they
hold (R240, R241, R228). Log 17. -/
def resetEvent (startPc : Word) (s : State) : State :=
  { State.reset with pc := startPc, stack := s.stack, mem := s.mem }

/-- Output `HALTED`: 1 exactly when `RUN = Halted` (R40). -/
def State.halted (s : State) : Bool := decide (s.run = .halted)

/-- Output `HALT_CAUSE` as its 2-bit code (R41, D20). Log 15. -/
def HaltCause.code : HaltCause → BitVec 2
  | .none => 0
  | .unknownOpcode => 1
  | .softwareBreak => 2

/-- Output `HALT_CAUSE` (R41). -/
def State.haltCauseCode (s : State) : BitVec 2 := s.haltCause.code

end Sys2Proof.Machine
end

