-- ==== Sys2Proof/Machine/Operands.lean ====
section
/-! DEFINITION. The addressing-mode resolver (`40_addressing.md`): effective addresses, operand values, and where an
instruction stores. The resolver writes nothing (R100, R115). -/

namespace Sys2Proof.Machine

/-- `EA`, the effective address of a Memory operand form (R100, R104 to R112). For JMP and JSR it is the target itself
(R107, R110, D24). -/
def ea (s : State) : Addr → Word
  | .zp b => zext16 b
  | .zpX b => zext16 (b + s.x)
  | .zpY b => zext16 (b + s.y)
  | .abs w => w
  | .absX w => w + zext16 s.x
  | .absY w => w + zext16 s.y
  | .ind w => s.memRead16 w
  | .indX b => s.memRead16zp (b + s.x)
  | .indY b => s.memRead16zp b + zext16 s.y

/-- The operand of an instruction that reads a value: the literal byte (R103) or a Memory byte. -/
inductive Source
  | imm (v : Byte)
  | mem (ad : Addr)
deriving DecidableEq, Repr

/-- `M`, the operand value (R100, R103). -/
def Source.value (s : State) : Source → Byte
  | .imm v => v
  | .mem ad => s.memRead (ea s ad)

/-- The addressing mode of a source. -/
def Source.mode : Source → Mode
  | .imm _ => .imm
  | .mem ad => ad.mode

/-- The target of a shift or rotate: A or a Memory byte (`45_shift_rotate.md`). -/
inductive Target
  | acc
  | mem (ad : Addr)
deriving DecidableEq, Repr

/-- The target's value before the instruction (R100, R102). -/
def Target.value (s : State) : Target → Byte
  | .acc => s.a
  | .mem ad => s.memRead (ea s ad)

/-- The addressing mode of a target. -/
def Target.mode : Target → Mode
  | .acc => .acc
  | .mem ad => ad.mode

/-- "write T": `A <- r` in Accumulator mode, `MemWrite(EA, 1, r)` otherwise. -/
def State.writeTarget (s : State) (r : Byte) : Target → State
  | .acc => s.setA r
  | .mem ad => s.memWrite (ea s ad) r

/-- The mnemonics that write a Memory byte when their operand is in Memory (R51). -/
def storesToMemory : Mnemonic → Bool
  | .sta | .stx | .sty | .inc | .dec | .asl | .lsr | .rol | .ror => true
  | .lda | .ldx | .ldy | .tax | .txa | .tay | .tya | .inx | .iny | .dex | .dey | .adc | .sbc | .cmp | .cpx | .cpy
  | .and | .ora | .eor | .bit | .pha | .pla | .php | .plp | .txs | .tsx | .bpl | .bmi | .bvc | .bvs | .bcc | .bcs
  | .bne | .beq | .jmp | .jsr | .rts | .brk | .nop | .rti | .clc | .sec | .cli | .sei | .clv | .cld | .sed => false

/-- The one Memory address an instruction stores to, if it stores: the EA of its operand, by the resolver its meaning
uses (R51, R100). -/
def storeAddr (i : Instr) (s : State) : Option Word :=
  match i.operand with
  | .mem ad => if storesToMemory i.mnemonic then some (ea s ad) else none
  | .impl | .acc | .imm _ | .rel _ => none

end Sys2Proof.Machine
end

