-- ==== Sys2Proof/Machine/Arithmetic.lean ====
section
/-! DEFINITION. ADC, SBC and the compares (`43_arithmetic_compare.md`); D has no effect (R142, D13, log 11). -/

namespace Sys2Proof.Machine

/-! ### Shared operations -/

/-- `A <- r; C <- c'; V <- v'; SetZN(r)` for the adder's answer on A, `m` and C (R140, R141). -/
def addToA (m : Byte) (mode : Mode) (s : State) : State :=
  ((s.setA (addCore s.a m s.flags.c).1).setFlags (s.flags.afterAdd (addCore s.a m s.flags.c))).advance mode

/-- ADC: `AddCore(A, M, C)` (R140). -/
def adc (src : Source) (s : State) : State := addToA (src.value s) src.mode s

/-- SBC: `AddCore(A, M ^ 0xFF, C)`, the carry an inverted borrow (R141, D12, log 11). -/
def sbc (src : Source) (s : State) : State := addToA (src.value s ^^^ 0xFF#8) src.mode s

/-- A compare of the register value `reg` with M: flags only (R143 to R145). -/
def compare (reg : Byte) (src : Source) (s : State) : State :=
  (s.setFlags (s.flags.afterCompare reg (src.value s))).advance src.mode

/-- CMP compares A (R143). -/
def cmp (src : Source) (s : State) : State := compare s.a src s

/-- CPX compares X (R144). -/
def cpx (src : Source) (s : State) : State := compare s.x src s

/-- CPY compares Y (R145). -/
def cpy (src : Source) (s : State) : State := compare s.y src s

/-! ### Meanings, one a row of the opcode table -/

/-- ADC, mode `#` (R140, R103). -/
def execAdcImm (v : Byte) (s : State) : Host.Outcome State Fault Refusal := .next (adc (.imm v) s)

/-- ADC, mode `zp` (R140, R104). -/
def execAdcZp (b : Byte) (s : State) : Host.Outcome State Fault Refusal := .next (adc (.mem (.zp b)) s)

/-- ADC, mode `zp,X` (R140, R105). -/
def execAdcZpX (b : Byte) (s : State) : Host.Outcome State Fault Refusal := .next (adc (.mem (.zpX b)) s)

/-- ADC, mode `abs` (R140, R107). -/
def execAdcAbs (w : Word) (s : State) : Host.Outcome State Fault Refusal := .next (adc (.mem (.abs w)) s)

/-- ADC, mode `abs,X` (R140, R108). -/
def execAdcAbsX (w : Word) (s : State) : Host.Outcome State Fault Refusal := .next (adc (.mem (.absX w)) s)

/-- ADC, mode `abs,Y` (R140, R109). -/
def execAdcAbsY (w : Word) (s : State) : Host.Outcome State Fault Refusal := .next (adc (.mem (.absY w)) s)

/-- ADC, mode `(zp,X)` (R140, R111). -/
def execAdcIndX (b : Byte) (s : State) : Host.Outcome State Fault Refusal := .next (adc (.mem (.indX b)) s)

/-- ADC, mode `(zp),Y` (R140, R112). -/
def execAdcIndY (b : Byte) (s : State) : Host.Outcome State Fault Refusal := .next (adc (.mem (.indY b)) s)

/-- SBC, mode `#` (R141, R103). -/
def execSbcImm (v : Byte) (s : State) : Host.Outcome State Fault Refusal := .next (sbc (.imm v) s)

/-- SBC, mode `zp` (R141, R104). -/
def execSbcZp (b : Byte) (s : State) : Host.Outcome State Fault Refusal := .next (sbc (.mem (.zp b)) s)

/-- SBC, mode `zp,X` (R141, R105). -/
def execSbcZpX (b : Byte) (s : State) : Host.Outcome State Fault Refusal := .next (sbc (.mem (.zpX b)) s)

/-- SBC, mode `abs` (R141, R107). -/
def execSbcAbs (w : Word) (s : State) : Host.Outcome State Fault Refusal := .next (sbc (.mem (.abs w)) s)

/-- SBC, mode `abs,X` (R141, R108). -/
def execSbcAbsX (w : Word) (s : State) : Host.Outcome State Fault Refusal := .next (sbc (.mem (.absX w)) s)

/-- SBC, mode `abs,Y` (R141, R109). -/
def execSbcAbsY (w : Word) (s : State) : Host.Outcome State Fault Refusal := .next (sbc (.mem (.absY w)) s)

/-- SBC, mode `(zp,X)` (R141, R111). -/
def execSbcIndX (b : Byte) (s : State) : Host.Outcome State Fault Refusal := .next (sbc (.mem (.indX b)) s)

/-- SBC, mode `(zp),Y` (R141, R112). -/
def execSbcIndY (b : Byte) (s : State) : Host.Outcome State Fault Refusal := .next (sbc (.mem (.indY b)) s)

/-- CMP, mode `#` (R143, R103). -/
def execCmpImm (v : Byte) (s : State) : Host.Outcome State Fault Refusal := .next (cmp (.imm v) s)

/-- CMP, mode `zp` (R143, R104). -/
def execCmpZp (b : Byte) (s : State) : Host.Outcome State Fault Refusal := .next (cmp (.mem (.zp b)) s)

/-- CMP, mode `zp,X` (R143, R105). -/
def execCmpZpX (b : Byte) (s : State) : Host.Outcome State Fault Refusal := .next (cmp (.mem (.zpX b)) s)

/-- CMP, mode `abs` (R143, R107). -/
def execCmpAbs (w : Word) (s : State) : Host.Outcome State Fault Refusal := .next (cmp (.mem (.abs w)) s)

/-- CMP, mode `abs,X` (R143, R108). -/
def execCmpAbsX (w : Word) (s : State) : Host.Outcome State Fault Refusal := .next (cmp (.mem (.absX w)) s)

/-- CMP, mode `abs,Y` (R143, R109). -/
def execCmpAbsY (w : Word) (s : State) : Host.Outcome State Fault Refusal := .next (cmp (.mem (.absY w)) s)

/-- CMP, mode `(zp,X)` (R143, R111). -/
def execCmpIndX (b : Byte) (s : State) : Host.Outcome State Fault Refusal := .next (cmp (.mem (.indX b)) s)

/-- CMP, mode `(zp),Y` (R143, R112). -/
def execCmpIndY (b : Byte) (s : State) : Host.Outcome State Fault Refusal := .next (cmp (.mem (.indY b)) s)

/-- CPX, mode `#` (R144, R103). -/
def execCpxImm (v : Byte) (s : State) : Host.Outcome State Fault Refusal := .next (cpx (.imm v) s)

/-- CPX, mode `zp` (R144, R104). -/
def execCpxZp (b : Byte) (s : State) : Host.Outcome State Fault Refusal := .next (cpx (.mem (.zp b)) s)

/-- CPX, mode `abs` (R144, R107). -/
def execCpxAbs (w : Word) (s : State) : Host.Outcome State Fault Refusal := .next (cpx (.mem (.abs w)) s)

/-- CPY, mode `#` (R145, R103). -/
def execCpyImm (v : Byte) (s : State) : Host.Outcome State Fault Refusal := .next (cpy (.imm v) s)

/-- CPY, mode `zp` (R145, R104). -/
def execCpyZp (b : Byte) (s : State) : Host.Outcome State Fault Refusal := .next (cpy (.mem (.zp b)) s)

/-- CPY, mode `abs` (R145, R107). -/
def execCpyAbs (w : Word) (s : State) : Host.Outcome State Fault Refusal := .next (cpy (.mem (.abs w)) s)

end Sys2Proof.Machine
end

