-- ==== Sys2Proof/Machine/Bitwise.lean ====
section
/-! DEFINITION. Bitwise logic (`44_bitwise.md`). -/

namespace Sys2Proof.Machine

/-! ### Shared operations -/

/-- `A <- r; SetZN(A)` for a combination `r` of A with M (R150 to R152). -/
def combine (r : Byte) (mode : Mode) (s : State) : State := ((s.setA r).setZN r).advance mode

/-- AND: `A <- A & M` (R150). -/
def andA (src : Source) (s : State) : State := combine (s.a &&& src.value s) src.mode s

/-- ORA: `A <- A | M` (R151). -/
def oraA (src : Source) (s : State) : State := combine (s.a ||| src.value s) src.mode s

/-- EOR: `A <- A ^ M` (R152). -/
def eorA (src : Source) (s : State) : State := combine (s.a ^^^ src.value s) src.mode s

/-- BIT: a test that stores nothing (R153). -/
def bitTest (src : Source) (s : State) : State :=
  (s.setFlags (s.flags.afterBit s.a (src.value s))).advance src.mode

/-! ### Meanings, one a row of the opcode table -/

/-- AND, mode `#` (R150, R103). -/
def execAndImm (v : Byte) (s : State) : Host.Outcome State Fault Refusal := .next (andA (.imm v) s)

/-- AND, mode `zp` (R150, R104). -/
def execAndZp (b : Byte) (s : State) : Host.Outcome State Fault Refusal := .next (andA (.mem (.zp b)) s)

/-- AND, mode `zp,X` (R150, R105). -/
def execAndZpX (b : Byte) (s : State) : Host.Outcome State Fault Refusal := .next (andA (.mem (.zpX b)) s)

/-- AND, mode `abs` (R150, R107). -/
def execAndAbs (w : Word) (s : State) : Host.Outcome State Fault Refusal := .next (andA (.mem (.abs w)) s)

/-- AND, mode `abs,X` (R150, R108). -/
def execAndAbsX (w : Word) (s : State) : Host.Outcome State Fault Refusal := .next (andA (.mem (.absX w)) s)

/-- AND, mode `abs,Y` (R150, R109). -/
def execAndAbsY (w : Word) (s : State) : Host.Outcome State Fault Refusal := .next (andA (.mem (.absY w)) s)

/-- AND, mode `(zp,X)` (R150, R111). -/
def execAndIndX (b : Byte) (s : State) : Host.Outcome State Fault Refusal := .next (andA (.mem (.indX b)) s)

/-- AND, mode `(zp),Y` (R150, R112). -/
def execAndIndY (b : Byte) (s : State) : Host.Outcome State Fault Refusal := .next (andA (.mem (.indY b)) s)

/-- ORA, mode `#` (R151, R103). -/
def execOraImm (v : Byte) (s : State) : Host.Outcome State Fault Refusal := .next (oraA (.imm v) s)

/-- ORA, mode `zp` (R151, R104). -/
def execOraZp (b : Byte) (s : State) : Host.Outcome State Fault Refusal := .next (oraA (.mem (.zp b)) s)

/-- ORA, mode `zp,X` (R151, R105). -/
def execOraZpX (b : Byte) (s : State) : Host.Outcome State Fault Refusal := .next (oraA (.mem (.zpX b)) s)

/-- ORA, mode `abs` (R151, R107). -/
def execOraAbs (w : Word) (s : State) : Host.Outcome State Fault Refusal := .next (oraA (.mem (.abs w)) s)

/-- ORA, mode `abs,X` (R151, R108). -/
def execOraAbsX (w : Word) (s : State) : Host.Outcome State Fault Refusal := .next (oraA (.mem (.absX w)) s)

/-- ORA, mode `abs,Y` (R151, R109). -/
def execOraAbsY (w : Word) (s : State) : Host.Outcome State Fault Refusal := .next (oraA (.mem (.absY w)) s)

/-- ORA, mode `(zp,X)` (R151, R111). -/
def execOraIndX (b : Byte) (s : State) : Host.Outcome State Fault Refusal := .next (oraA (.mem (.indX b)) s)

/-- ORA, mode `(zp),Y` (R151, R112). -/
def execOraIndY (b : Byte) (s : State) : Host.Outcome State Fault Refusal := .next (oraA (.mem (.indY b)) s)

/-- EOR, mode `#` (R152, R103). -/
def execEorImm (v : Byte) (s : State) : Host.Outcome State Fault Refusal := .next (eorA (.imm v) s)

/-- EOR, mode `zp` (R152, R104). -/
def execEorZp (b : Byte) (s : State) : Host.Outcome State Fault Refusal := .next (eorA (.mem (.zp b)) s)

/-- EOR, mode `zp,X` (R152, R105). -/
def execEorZpX (b : Byte) (s : State) : Host.Outcome State Fault Refusal := .next (eorA (.mem (.zpX b)) s)

/-- EOR, mode `abs` (R152, R107). -/
def execEorAbs (w : Word) (s : State) : Host.Outcome State Fault Refusal := .next (eorA (.mem (.abs w)) s)

/-- EOR, mode `abs,X` (R152, R108). -/
def execEorAbsX (w : Word) (s : State) : Host.Outcome State Fault Refusal := .next (eorA (.mem (.absX w)) s)

/-- EOR, mode `abs,Y` (R152, R109). -/
def execEorAbsY (w : Word) (s : State) : Host.Outcome State Fault Refusal := .next (eorA (.mem (.absY w)) s)

/-- EOR, mode `(zp,X)` (R152, R111). -/
def execEorIndX (b : Byte) (s : State) : Host.Outcome State Fault Refusal := .next (eorA (.mem (.indX b)) s)

/-- EOR, mode `(zp),Y` (R152, R112). -/
def execEorIndY (b : Byte) (s : State) : Host.Outcome State Fault Refusal := .next (eorA (.mem (.indY b)) s)

/-- BIT, mode `zp` (R153, R104). -/
def execBitZp (b : Byte) (s : State) : Host.Outcome State Fault Refusal := .next (bitTest (.mem (.zp b)) s)

/-- BIT, mode `abs` (R153, R107). -/
def execBitAbs (w : Word) (s : State) : Host.Outcome State Fault Refusal := .next (bitTest (.mem (.abs w)) s)

end Sys2Proof.Machine
end

