-- ==== Sys2Proof/Machine/Branch.lean ====
section
/-! DEFINITION. Conditional branches (`47_branch.md`). -/

namespace Sys2Proof.Machine

/-! ### Shared operations -/

/-- The target of a taken branch, counted from the address after it: `(PC + 2 + off) mod 65536` (R180, D11, log 10). -/
def branchTarget (pc : Word) (off : Int) : Word := BitVec.ofInt 16 ((pc.toNat : Int) + 2 + off)

/-- The common branch rule: a taken branch writes PC itself, one not taken gets the default advance (R180). -/
def branch (cond : Bool) (off : Int) (s : State) : State :=
  if cond then s.setPc (branchTarget s.pc off) else s.advance .rel

/-! ### Meanings, one a row of the opcode table -/

/-- BPL, mode `rel` (R181, R113). -/
def execBpl (off : Int) (s : State) : Host.Outcome State Fault Refusal := .next (branch (!s.flags.n) off s)

/-- BMI, mode `rel` (R182, R113). -/
def execBmi (off : Int) (s : State) : Host.Outcome State Fault Refusal := .next (branch s.flags.n off s)

/-- BVC, mode `rel` (R183, R113). -/
def execBvc (off : Int) (s : State) : Host.Outcome State Fault Refusal := .next (branch (!s.flags.v) off s)

/-- BVS, mode `rel` (R184, R113). -/
def execBvs (off : Int) (s : State) : Host.Outcome State Fault Refusal := .next (branch s.flags.v off s)

/-- BCC, mode `rel` (R185, R113). -/
def execBcc (off : Int) (s : State) : Host.Outcome State Fault Refusal := .next (branch (!s.flags.c) off s)

/-- BCS, mode `rel` (R186, R113). -/
def execBcs (off : Int) (s : State) : Host.Outcome State Fault Refusal := .next (branch s.flags.c off s)

/-- BNE, mode `rel` (R187, R113). -/
def execBne (off : Int) (s : State) : Host.Outcome State Fault Refusal := .next (branch (!s.flags.z) off s)

/-- BEQ, mode `rel` (R188, R113). -/
def execBeq (off : Int) (s : State) : Host.Outcome State Fault Refusal := .next (branch s.flags.z off s)

end Sys2Proof.Machine
end

