-- ==== Sys2Proof/Machine/Transfer.lean ====
section
/-! DEFINITION. Register transfers (`42_transfer_incdec.md` section 1); all four set Z and N (D22, log 13). -/

namespace Sys2Proof.Machine

/-! ### Shared operations -/

/-- `A <- v; SetZN(A)`, one byte (R131, R133). -/
def transferToA (v : Byte) (s : State) : State := ((s.setA v).setZN v).advance .impl

/-- `X <- v; SetZN(X)`, one byte (R130, R177). -/
def transferToX (v : Byte) (s : State) : State := ((s.setX v).setZN v).advance .impl

/-- `Y <- v; SetZN(Y)`, one byte (R132). -/
def transferToY (v : Byte) (s : State) : State := ((s.setY v).setZN v).advance .impl

/-! ### Meanings, one a row of the opcode table -/

/-- TAX, mode `impl` (R130, R101). -/
def execTax (s : State) : Host.Outcome State Fault Refusal := .next (transferToX s.a s)

/-- TXA, mode `impl` (R131, R101). -/
def execTxa (s : State) : Host.Outcome State Fault Refusal := .next (transferToA s.x s)

/-- TAY, mode `impl` (R132, R101). -/
def execTay (s : State) : Host.Outcome State Fault Refusal := .next (transferToY s.a s)

/-- TYA, mode `impl` (R133, R101). -/
def execTya (s : State) : Host.Outcome State Fault Refusal := .next (transferToA s.y s)

end Sys2Proof.Machine
end

