-- ==== Sys2Proof/Machine/IncDec.lean ====
section
/-! DEFINITION. Increments and decrements (`42_transfer_incdec.md` sections 2 and 3); C and V are not written. -/

namespace Sys2Proof.Machine

/-! ### Shared operations -/

/-- A Memory byte replaced by `r`: `MemWrite(EA, 1, r); SetZN(r)` (R138, R139). -/
def modify (r : Byte) (ad : Addr) (s : State) : State :=
  ((s.memWrite (ea s ad) r).setZN r).advance ad.mode

/-- INC: `r <- (M + 1) mod 256` (R138). -/
def inc (ad : Addr) (s : State) : State := modify (s.memRead (ea s ad) + 1) ad s

/-- DEC: `r <- (M - 1) mod 256` (R139). -/
def dec (ad : Addr) (s : State) : State := modify (s.memRead (ea s ad) - 1) ad s

/-! ### Meanings, one a row of the opcode table -/

/-- INX, mode `impl` (R134, R101). -/
def execInx (s : State) : Host.Outcome State Fault Refusal := .next (transferToX (s.x + 1) s)

/-- INY, mode `impl` (R135, R101). -/
def execIny (s : State) : Host.Outcome State Fault Refusal := .next (transferToY (s.y + 1) s)

/-- DEX, mode `impl` (R136, R101). -/
def execDex (s : State) : Host.Outcome State Fault Refusal := .next (transferToX (s.x - 1) s)

/-- DEY, mode `impl` (R137, R101). -/
def execDey (s : State) : Host.Outcome State Fault Refusal := .next (transferToY (s.y - 1) s)

/-- INC, mode `zp` (R138, R104). -/
def execIncZp (b : Byte) (s : State) : Host.Outcome State Fault Refusal := .next (inc (.zp b) s)

/-- INC, mode `zp,X` (R138, R105). -/
def execIncZpX (b : Byte) (s : State) : Host.Outcome State Fault Refusal := .next (inc (.zpX b) s)

/-- INC, mode `abs` (R138, R107). -/
def execIncAbs (w : Word) (s : State) : Host.Outcome State Fault Refusal := .next (inc (.abs w) s)

/-- INC, mode `abs,X` (R138, R108). -/
def execIncAbsX (w : Word) (s : State) : Host.Outcome State Fault Refusal := .next (inc (.absX w) s)

/-- DEC, mode `zp` (R139, R104). -/
def execDecZp (b : Byte) (s : State) : Host.Outcome State Fault Refusal := .next (dec (.zp b) s)

/-- DEC, mode `zp,X` (R139, R105). -/
def execDecZpX (b : Byte) (s : State) : Host.Outcome State Fault Refusal := .next (dec (.zpX b) s)

/-- DEC, mode `abs` (R139, R107). -/
def execDecAbs (w : Word) (s : State) : Host.Outcome State Fault Refusal := .next (dec (.abs w) s)

/-- DEC, mode `abs,X` (R139, R108). -/
def execDecAbsX (w : Word) (s : State) : Host.Outcome State Fault Refusal := .next (dec (.absX w) s)

end Sys2Proof.Machine
end

