-- ==== Sys2Proof/Machine/Jump.lean ====
section
/-! DEFINITION. Jumps, subroutine call and return (`48_jump.md`); all write PC themselves. -/

namespace Sys2Proof.Machine

/-! ### Shared operations -/

/-- JMP: `PC <- EA` (R190, R191). -/
def jump (ad : Addr) (s : State) : State := s.setPc (ea s ad)

/-- The return address JSR pushes: the address of the instruction after it (R192, C12). -/
def returnAddress (pc : Word) : Word := pc + BitVec.ofNat 16 Mode.abs.length

/-- JSR: `Push16((PC + 3) mod 65536); PC <- EA`, EA resolved before the push (R192). -/
def callSubroutine (ad : Addr) (s : State) : State :=
  (s.push16 (returnAddress s.pc)).setPc (ea s ad)

/-- RTS: `PC <- Pop16()`, all 16 bits, nothing added (R193). -/
def returnFromSubroutine (s : State) : State := s.popped.setPc s.popValue

/-! ### Meanings, one a row of the opcode table -/

/-- JMP, mode `abs` (R190, R107). -/
def execJmpAbs (w : Word) (s : State) : Host.Outcome State Fault Refusal := .next (jump (.abs w) s)

/-- JMP, mode `(abs)` (R191, R110). -/
def execJmpInd (w : Word) (s : State) : Host.Outcome State Fault Refusal := .next (jump (.ind w) s)

/-- JSR, mode `abs` (R192, R107). -/
def execJsr (w : Word) (s : State) : Host.Outcome State Fault Refusal := .next (callSubroutine (.abs w) s)

/-- RTS, mode `impl` (R193, R101). -/
def execRts (s : State) : Host.Outcome State Fault Refusal := .next (returnFromSubroutine s)

end Sys2Proof.Machine
end

