-- ==== Sys2Proof/Machine/LoadStore.lean ====
section
/-! DEFINITION. Loads and stores (`41_load_store.md`). -/

namespace Sys2Proof.Machine

/-! ### Shared operations -/

/-- LDA: `A <- M; SetZN(A)` (R120). -/
def lda (src : Source) (s : State) : State :=
  ((s.setA (src.value s)).setZN (src.value s)).advance src.mode

/-- LDX: `X <- M; SetZN(X)` (R121). -/
def ldx (src : Source) (s : State) : State :=
  ((s.setX (src.value s)).setZN (src.value s)).advance src.mode

/-- LDY: `Y <- M; SetZN(Y)` (R122). -/
def ldy (src : Source) (s : State) : State :=
  ((s.setY (src.value s)).setZN (src.value s)).advance src.mode

/-- A store of the byte `v`: `MemWrite(EA, 1, v)`, no flag (R123 to R125). -/
def store (v : Byte) (ad : Addr) (s : State) : State := (s.memWrite (ea s ad) v).advance ad.mode

/-- STA: `MemWrite(EA, 1, A)` (R123). -/
def sta (ad : Addr) (s : State) : State := store s.a ad s

/-- STX: `MemWrite(EA, 1, X)` (R124). -/
def stx (ad : Addr) (s : State) : State := store s.x ad s

/-- STY: `MemWrite(EA, 1, Y)` (R125). -/
def sty (ad : Addr) (s : State) : State := store s.y ad s

/-! ### Meanings, one a row of the opcode table -/

/-- LDA, mode `#` (R120, R103). -/
def execLdaImm (v : Byte) (s : State) : Host.Outcome State Fault Refusal := .next (lda (.imm v) s)

/-- LDA, mode `zp` (R120, R104). -/
def execLdaZp (b : Byte) (s : State) : Host.Outcome State Fault Refusal := .next (lda (.mem (.zp b)) s)

/-- LDA, mode `zp,X` (R120, R105). -/
def execLdaZpX (b : Byte) (s : State) : Host.Outcome State Fault Refusal := .next (lda (.mem (.zpX b)) s)

/-- LDA, mode `abs` (R120, R107). -/
def execLdaAbs (w : Word) (s : State) : Host.Outcome State Fault Refusal := .next (lda (.mem (.abs w)) s)

/-- LDA, mode `abs,X` (R120, R108). -/
def execLdaAbsX (w : Word) (s : State) : Host.Outcome State Fault Refusal := .next (lda (.mem (.absX w)) s)

/-- LDA, mode `abs,Y` (R120, R109). -/
def execLdaAbsY (w : Word) (s : State) : Host.Outcome State Fault Refusal := .next (lda (.mem (.absY w)) s)

/-- LDA, mode `(zp,X)` (R120, R111). -/
def execLdaIndX (b : Byte) (s : State) : Host.Outcome State Fault Refusal := .next (lda (.mem (.indX b)) s)

/-- LDA, mode `(zp),Y` (R120, R112). -/
def execLdaIndY (b : Byte) (s : State) : Host.Outcome State Fault Refusal := .next (lda (.mem (.indY b)) s)

/-- LDX, mode `#` (R121, R103). -/
def execLdxImm (v : Byte) (s : State) : Host.Outcome State Fault Refusal := .next (ldx (.imm v) s)

/-- LDX, mode `zp` (R121, R104). -/
def execLdxZp (b : Byte) (s : State) : Host.Outcome State Fault Refusal := .next (ldx (.mem (.zp b)) s)

/-- LDX, mode `zp,Y` (R121, R106). -/
def execLdxZpY (b : Byte) (s : State) : Host.Outcome State Fault Refusal := .next (ldx (.mem (.zpY b)) s)

/-- LDX, mode `abs` (R121, R107). -/
def execLdxAbs (w : Word) (s : State) : Host.Outcome State Fault Refusal := .next (ldx (.mem (.abs w)) s)

/-- LDX, mode `abs,Y` (R121, R109). -/
def execLdxAbsY (w : Word) (s : State) : Host.Outcome State Fault Refusal := .next (ldx (.mem (.absY w)) s)

/-- LDY, mode `#` (R122, R103). -/
def execLdyImm (v : Byte) (s : State) : Host.Outcome State Fault Refusal := .next (ldy (.imm v) s)

/-- LDY, mode `zp` (R122, R104). -/
def execLdyZp (b : Byte) (s : State) : Host.Outcome State Fault Refusal := .next (ldy (.mem (.zp b)) s)

/-- LDY, mode `zp,X` (R122, R105). -/
def execLdyZpX (b : Byte) (s : State) : Host.Outcome State Fault Refusal := .next (ldy (.mem (.zpX b)) s)

/-- LDY, mode `abs` (R122, R107). -/
def execLdyAbs (w : Word) (s : State) : Host.Outcome State Fault Refusal := .next (ldy (.mem (.abs w)) s)

/-- LDY, mode `abs,X` (R122, R108). -/
def execLdyAbsX (w : Word) (s : State) : Host.Outcome State Fault Refusal := .next (ldy (.mem (.absX w)) s)

/-- STA, mode `zp` (R123, R104). -/
def execStaZp (b : Byte) (s : State) : Host.Outcome State Fault Refusal := .next (sta (.zp b) s)

/-- STA, mode `zp,X` (R123, R105). -/
def execStaZpX (b : Byte) (s : State) : Host.Outcome State Fault Refusal := .next (sta (.zpX b) s)

/-- STA, mode `abs` (R123, R107). -/
def execStaAbs (w : Word) (s : State) : Host.Outcome State Fault Refusal := .next (sta (.abs w) s)

/-- STA, mode `abs,X` (R123, R108). -/
def execStaAbsX (w : Word) (s : State) : Host.Outcome State Fault Refusal := .next (sta (.absX w) s)

/-- STA, mode `abs,Y` (R123, R109). -/
def execStaAbsY (w : Word) (s : State) : Host.Outcome State Fault Refusal := .next (sta (.absY w) s)

/-- STA, mode `(zp,X)` (R123, R111). -/
def execStaIndX (b : Byte) (s : State) : Host.Outcome State Fault Refusal := .next (sta (.indX b) s)

/-- STA, mode `(zp),Y` (R123, R112). -/
def execStaIndY (b : Byte) (s : State) : Host.Outcome State Fault Refusal := .next (sta (.indY b) s)

/-- STX, mode `zp` (R124, R104). -/
def execStxZp (b : Byte) (s : State) : Host.Outcome State Fault Refusal := .next (stx (.zp b) s)

/-- STX, mode `zp,Y` (R124, R106). -/
def execStxZpY (b : Byte) (s : State) : Host.Outcome State Fault Refusal := .next (stx (.zpY b) s)

/-- STX, mode `abs` (R124, R107). -/
def execStxAbs (w : Word) (s : State) : Host.Outcome State Fault Refusal := .next (stx (.abs w) s)

/-- STY, mode `zp` (R125, R104). -/
def execStyZp (b : Byte) (s : State) : Host.Outcome State Fault Refusal := .next (sty (.zp b) s)

/-- STY, mode `zp,X` (R125, R105). -/
def execStyZpX (b : Byte) (s : State) : Host.Outcome State Fault Refusal := .next (sty (.zpX b) s)

/-- STY, mode `abs` (R125, R107). -/
def execStyAbs (w : Word) (s : State) : Host.Outcome State Fault Refusal := .next (sty (.abs w) s)

end Sys2Proof.Machine
end

