-- ==== Sys2Proof/Machine/Shift.lean ====
section
/-! DEFINITION. Shifts and rotates (`45_shift_rotate.md`). -/

namespace Sys2Proof.Machine

/-! ### Shared operations -/

/-- `write T <- r; C <- the bit shifted out; SetZN(r)` for a shifter's answer (R160 to R163). -/
def shiftTarget (res : Byte × Bool) (t : Target) (s : State) : State :=
  ((s.writeTarget res.1 t).setFlags (s.flags.afterShift res)).advance t.mode

/-- ASL (R160). -/
def asl (t : Target) (s : State) : State := shiftTarget (aslCore (t.value s)) t s

/-- LSR (R161). -/
def lsr (t : Target) (s : State) : State := shiftTarget (lsrCore (t.value s)) t s

/-- ROL (R162). -/
def rol (t : Target) (s : State) : State := shiftTarget (rolCore (t.value s) s.flags.c) t s

/-- ROR (R163). -/
def ror (t : Target) (s : State) : State := shiftTarget (rorCore (t.value s) s.flags.c) t s

/-! ### Meanings, one a row of the opcode table -/

/-- ASL, mode `A` (R160, R102). -/
def execAslAcc (s : State) : Host.Outcome State Fault Refusal := .next (asl .acc s)

/-- ASL, mode `zp` (R160, R104). -/
def execAslZp (b : Byte) (s : State) : Host.Outcome State Fault Refusal := .next (asl (.mem (.zp b)) s)

/-- ASL, mode `zp,X` (R160, R105). -/
def execAslZpX (b : Byte) (s : State) : Host.Outcome State Fault Refusal := .next (asl (.mem (.zpX b)) s)

/-- ASL, mode `abs` (R160, R107). -/
def execAslAbs (w : Word) (s : State) : Host.Outcome State Fault Refusal := .next (asl (.mem (.abs w)) s)

/-- ASL, mode `abs,X` (R160, R108). -/
def execAslAbsX (w : Word) (s : State) : Host.Outcome State Fault Refusal := .next (asl (.mem (.absX w)) s)

/-- LSR, mode `A` (R161, R102). -/
def execLsrAcc (s : State) : Host.Outcome State Fault Refusal := .next (lsr .acc s)

/-- LSR, mode `zp` (R161, R104). -/
def execLsrZp (b : Byte) (s : State) : Host.Outcome State Fault Refusal := .next (lsr (.mem (.zp b)) s)

/-- LSR, mode `zp,X` (R161, R105). -/
def execLsrZpX (b : Byte) (s : State) : Host.Outcome State Fault Refusal := .next (lsr (.mem (.zpX b)) s)

/-- LSR, mode `abs` (R161, R107). -/
def execLsrAbs (w : Word) (s : State) : Host.Outcome State Fault Refusal := .next (lsr (.mem (.abs w)) s)

/-- LSR, mode `abs,X` (R161, R108). -/
def execLsrAbsX (w : Word) (s : State) : Host.Outcome State Fault Refusal := .next (lsr (.mem (.absX w)) s)

/-- ROL, mode `A` (R162, R102). -/
def execRolAcc (s : State) : Host.Outcome State Fault Refusal := .next (rol .acc s)

/-- ROL, mode `zp` (R162, R104). -/
def execRolZp (b : Byte) (s : State) : Host.Outcome State Fault Refusal := .next (rol (.mem (.zp b)) s)

/-- ROL, mode `zp,X` (R162, R105). -/
def execRolZpX (b : Byte) (s : State) : Host.Outcome State Fault Refusal := .next (rol (.mem (.zpX b)) s)

/-- ROL, mode `abs` (R162, R107). -/
def execRolAbs (w : Word) (s : State) : Host.Outcome State Fault Refusal := .next (rol (.mem (.abs w)) s)

/-- ROL, mode `abs,X` (R162, R108). -/
def execRolAbsX (w : Word) (s : State) : Host.Outcome State Fault Refusal := .next (rol (.mem (.absX w)) s)

/-- ROR, mode `A` (R163, R102). -/
def execRorAcc (s : State) : Host.Outcome State Fault Refusal := .next (ror .acc s)

/-- ROR, mode `zp` (R163, R104). -/
def execRorZp (b : Byte) (s : State) : Host.Outcome State Fault Refusal := .next (ror (.mem (.zp b)) s)

/-- ROR, mode `zp,X` (R163, R105). -/
def execRorZpX (b : Byte) (s : State) : Host.Outcome State Fault Refusal := .next (ror (.mem (.zpX b)) s)

/-- ROR, mode `abs` (R163, R107). -/
def execRorAbs (w : Word) (s : State) : Host.Outcome State Fault Refusal := .next (ror (.mem (.abs w)) s)

/-- ROR, mode `abs,X` (R163, R108). -/
def execRorAbsX (w : Word) (s : State) : Host.Outcome State Fault Refusal := .next (ror (.mem (.absX w)) s)

end Sys2Proof.Machine
end

