-- ==== Sys2Proof/Machine/Stack.lean ====
section
/-! DEFINITION. Stack instructions (`46_stack.md`): bytes travel in 16-bit slots (D8, log 8). -/

namespace Sys2Proof.Machine

/-! ### Shared operations -/

/-- Push a byte, "widened to the same slot type", one byte long, no flag (R172, R174). -/
def pushByte (v : Byte) (s : State) : State := (s.push16 (zext16 v)).advance .impl

/-- PLA: `v <- Pop16(); A <- v[7:0]; SetZN(A)` (R173). -/
def pullA (s : State) : State := transferToA (lowByte s.popValue) s.popped

/-- PLP: `v <- Pop16(); Unpack(v[7:0])` (R175). -/
def pullFlags (s : State) : State := (s.popped.setFlags (Flags.unpack (lowByte s.popValue))).advance .impl

/-- TXS: `SP <- X`, no flag (R176). -/
def transferToSp (v : Byte) (s : State) : State := (s.setSp v).advance .impl

/-! ### Meanings, one a row of the opcode table -/

/-- PHA, mode `impl` (R172, R101). -/
def execPha (s : State) : Host.Outcome State Fault Refusal := .next (pushByte s.a s)

/-- PLA, mode `impl` (R173, R101). -/
def execPla (s : State) : Host.Outcome State Fault Refusal := .next (pullA s)

/-- PHP, mode `impl` (R174, R101). -/
def execPhp (s : State) : Host.Outcome State Fault Refusal := .next (pushByte s.flags.pack s)

/-- PLP, mode `impl` (R175, R101). -/
def execPlp (s : State) : Host.Outcome State Fault Refusal := .next (pullFlags s)

/-- TXS, mode `impl` (R176, R101). -/
def execTxs (s : State) : Host.Outcome State Fault Refusal := .next (transferToSp s.x s)

/-- TSX, mode `impl` (R177, R101). -/
def execTsx (s : State) : Host.Outcome State Fault Refusal := .next (transferToX s.sp s)

end Sys2Proof.Machine
end

