-- ==== Sys2Proof/Machine/System.lean ====
section
/-! DEFINITION. BRK, NOP, RTI and the seven flag instructions (`49_system_flag.md`). -/

namespace Sys2Proof.Machine

/-! ### Shared operations -/

/-- BRK: `B <- 1; raise Halt(SoftwareBreak)`; the opcode byte it reports is its own, 0x00, and PC is not advanced
(R200, R226, D9, D10). Log 9. -/
def softwareBreak (s : State) : State :=
  raiseHalt .softwareBreak 0x00#8 (s.setFlags { s.flags with b := true })

/-- Nothing but the default advance of one byte (R201, R202). -/
def noOperation (s : State) : State := s.advance .impl

/-- Write the flags of a flag instruction, then the default advance of one byte (R204 to R210). -/
def setFlag (f : Flags) (s : State) : State := (s.setFlags f).advance .impl

/-! ### Meanings, one a row of the opcode table -/

/-- BRK, mode `impl` (R200, R101). -/
def execBrk (s : State) : Host.Outcome State Fault Refusal := .next (softwareBreak s)

/-- NOP, mode `impl` (R201, R101). -/
def execNop (s : State) : Host.Outcome State Fault Refusal := .next (noOperation s)

/-- RTI, mode `impl` (R202, R101). -/
def execRti (s : State) : Host.Outcome State Fault Refusal := .next (noOperation s)

/-- CLC, mode `impl` (R204, R101). -/
def execClc (s : State) : Host.Outcome State Fault Refusal := .next (setFlag { s.flags with c := false } s)

/-- SEC, mode `impl` (R205, R101). -/
def execSec (s : State) : Host.Outcome State Fault Refusal := .next (setFlag { s.flags with c := true } s)

/-- CLI, mode `impl` (R206, R101). -/
def execCli (s : State) : Host.Outcome State Fault Refusal := .next (setFlag { s.flags with i := false } s)

/-- SEI, mode `impl` (R207, R101). -/
def execSei (s : State) : Host.Outcome State Fault Refusal := .next (setFlag { s.flags with i := true } s)

/-- CLV, mode `impl` (R208, R101). -/
def execClv (s : State) : Host.Outcome State Fault Refusal := .next (setFlag { s.flags with v := false } s)

/-- CLD, mode `impl` (R209, R101). -/
def execCld (s : State) : Host.Outcome State Fault Refusal := .next (setFlag { s.flags with d := false } s)

/-- SED, mode `impl` (R210, R101). -/
def execSed (s : State) : Host.Outcome State Fault Refusal := .next (setFlag { s.flags with d := true } s)

end Sys2Proof.Machine
end

