-- ==== Sys2Proof/Machine/Step.lean ====
section
/-! DEFINITION. The Step, the top-level transition function (R90), and placing an instruction where it fetches. -/

namespace Sys2Proof.Machine

/-- One STEP event: nothing while Halted (R91); else fetch, look up, and either execute exactly one instruction or halt
on an opcode byte with no descriptor, which changes RUN and the report only (R90, R92, R221). Log 14. -/
def step (s : State) : Host.Outcome State Fault Refusal :=
  match s.run with
  | .halted => .next s
  | .running =>
    match decode s.fetch.1 s.fetch.2.1 s.fetch.2.2 with
    | .instr i => exec i s
    | .unknownOpcode opcode => .next (raiseHalt .unknownOpcode opcode s)

/-- `s` with the instruction word `w` of `nbits` bits (further bits zero, three bytes in all) stored at PC and RUN set
to Running, so that the next step runs it. It stands for the host's program load (R63, R243). Logs 1 and 19. -/
def State.withFetchWord (s : State) (nbits w : Nat) : State :=
  let bits := w % 2 ^ nbits
  { ((s.memWrite s.pc (tableByte bits 0)).memWrite (s.pc + 1) (tableByte bits 1)).memWrite (s.pc + 2) (tableByte bits 2)
    with run := .running }

end Sys2Proof.Machine
end

