-- ==== Sys2Proof/Machine/HostPort.lean ====
section
/-! DEFINITION. What the host does between Steps (`00_scope.md` section 4, `20_memory.md` section 5): program load,
power-on, byte injection, and the STEP and RESET events. None of it is part of `step`. -/

namespace Sys2Proof.Machine

/-- Program load from `addr` up: no wrap, "bytes beyond the boundary are silently dropped" (R63, C13). -/
def loadProgram : List Byte → Nat → Memory → Memory
  | [], _, m => m
  | byte :: rest, addr, m => loadProgram rest (addr + 1) (if addr < memSize then m.write addr byte else m)

/-- Power-on: blank Memory and stack, then the host's program at `LOAD_ADDR`, then the reset state with PC at
`START_PC` (R242, R243). Logs 1 and 2. -/
def boot (loadAddr startPc : Word) (program : List Byte) : State :=
  resetEvent startPc { State.reset with mem := loadProgram program loadAddr.toNat State.reset.mem }

/-- Diagnostic byte injection at two given zero-page addresses, or at none (R64). The second write is the later one,
should the two be the same address. Log 16. -/
def injectAt (addrs : Option (Byte × Byte)) (v0 v1 : Byte) (s : State) : State :=
  match addrs with
  | none => s
  | some (p, q) => (s.memWrite (zext16 p) v0).memWrite (zext16 q) v1

/-- Diagnostic byte injection before a Step, at `INJECT_ADDRS`, with any two bytes (R64, U18). -/
def inject (v0 v1 : Byte) (s : State) : State := injectAt Config.injectAddrs v0 v1 s

/-- The two event inputs at one moment: RESET with the value of `START_PC` it samples, and STEP (R10, R11). -/
structure Inputs where
  reset : Option Word
  step : Bool
deriving DecidableEq, Repr

/-- The core's answer to its event inputs: RESET is taken before STEP, which is then ignored (R225, D27). Log 17. -/
def clock (inp : Inputs) (s : State) : Host.Outcome State Fault Refusal :=
  match inp.reset with
  | some startPc => .next (resetEvent startPc s)
  | none => if inp.step then step s else .next s

end Sys2Proof.Machine
end

