-- ==== Sys2Proof/Safety.lean ====
section
/-! DEFINITION. What a good state is, and which states a core reaches: the terms the claims are stated in. -/

namespace Sys2Proof.Machine

/-- `STACK[0]` still holds its power-on value, which no instruction ever overwrites (R37 (a)). -/
def StackBottomIntact (s : State) : Prop := s.slot 0x00#8 = 0x0000#16

/-- The halt report agrees with the machine: nothing reported while Running; while Halted, the report names the opcode
byte PC stands at, and either that byte has no descriptor, or it is BRK's and B is set (R25, R41, R42, R220, R226). -/
def HaltReportConsistent (s : State) : Prop :=
  match s.run with
  | .running => s.haltCause = .none ∧ s.haltPc = 0x0000#16 ∧ s.haltOpcode = 0x00#8
  | .halted =>
    s.haltPc = s.pc ∧ s.haltOpcode = s.memRead s.pc ∧
      ((s.haltCause = .unknownOpcode ∧ (dispatch s.haltOpcode).isNone = true) ∨
        (s.haltCause = .softwareBreak ∧ s.haltOpcode = 0x00#8 ∧ s.flags.b = true))

/-- A good state: Memory in canonical form, the stack's bottom slot intact, and a truthful halt report. -/
def Safe (s : State) : Prop := s.mem.wf = true ∧ StackBottomIntact s ∧ HaltReportConsistent s

/-- The states a core reaches from power-on with any program at any address, under any STEP and RESET events. The host's
optional byte injection is not among the events: R64 calls it "not required for core correctness" (log 16, DESIGN
CHOICE). -/
inductive Reachable : State → Prop
  | boot (loadAddr startPc : Word) (program : List Byte) : Reachable (Machine.boot loadAddr startPc program)
  | event {s t : State} (inp : Inputs) : Reachable s → clock inp s = .next t → Reachable t

end Sys2Proof.Machine
end

