-- ==== Sys2Proof/Certificates/Slice0/Obligations.lean ====
section
/-! DEFINITION. The statements for the provers. Each list of forms below names the instructions a statement is about,
with the operand value or Memory operand and the length that the opcode table (R80) and the mode table (R73) give them. -/

open Sys2Proof Sys2Proof.Machine

namespace Sys2Proof.Claims

/-- The operand value of a Memory operand form, read where the resolver says. -/
abbrev rd (s : State) (ad : Addr) : Byte := s.memRead (ea s ad)

/-- The flags with Z and N set from a byte, in the arithmetic of R30. -/
abbrev zn (f : Flags) (m : Byte) : Flags := { f with z := decide (m = 0), n := decide (128 ≤ m.toNat) }

/-- An instruction that reads an operand: itself, its operand value M, its length. -/
abbrev ReadForm := Instr × Byte × Nat

/-- An instruction that writes one Memory byte: itself, its Memory operand, its length. -/
abbrev WriteForm := Instr × Addr × Nat

/-- The 8 forms of LDA. -/
def ldaForms (s : State) (v b : Byte) (w : Word) : List ReadForm :=
   [(.ldaImm v, v, 2), (.ldaZp b, rd s (.zp b), 2), (.ldaZpX b, rd s (.zpX b), 2),
    (.ldaAbs w, rd s (.abs w), 3), (.ldaAbsX w, rd s (.absX w), 3), (.ldaAbsY w, rd s (.absY w), 3),
    (.ldaIndX b, rd s (.indX b), 2), (.ldaIndY b, rd s (.indY b), 2)]

/-- The 5 forms of LDX. -/
def ldxForms (s : State) (v b : Byte) (w : Word) : List ReadForm :=
   [(.ldxImm v, v, 2), (.ldxZp b, rd s (.zp b), 2), (.ldxZpY b, rd s (.zpY b), 2),
    (.ldxAbs w, rd s (.abs w), 3), (.ldxAbsY w, rd s (.absY w), 3)]

/-- The 5 forms of LDY. -/
def ldyForms (s : State) (v b : Byte) (w : Word) : List ReadForm :=
   [(.ldyImm v, v, 2), (.ldyZp b, rd s (.zp b), 2), (.ldyZpX b, rd s (.zpX b), 2),
    (.ldyAbs w, rd s (.abs w), 3), (.ldyAbsX w, rd s (.absX w), 3)]

/-- The 8 forms of ADC. -/
def adcForms (s : State) (v b : Byte) (w : Word) : List ReadForm :=
   [(.adcImm v, v, 2), (.adcZp b, rd s (.zp b), 2), (.adcZpX b, rd s (.zpX b), 2),
    (.adcAbs w, rd s (.abs w), 3), (.adcAbsX w, rd s (.absX w), 3), (.adcAbsY w, rd s (.absY w), 3),
    (.adcIndX b, rd s (.indX b), 2), (.adcIndY b, rd s (.indY b), 2)]

/-- The 8 forms of SBC. -/
def sbcForms (s : State) (v b : Byte) (w : Word) : List ReadForm :=
   [(.sbcImm v, v, 2), (.sbcZp b, rd s (.zp b), 2), (.sbcZpX b, rd s (.zpX b), 2),
    (.sbcAbs w, rd s (.abs w), 3), (.sbcAbsX w, rd s (.absX w), 3), (.sbcAbsY w, rd s (.absY w), 3),
    (.sbcIndX b, rd s (.indX b), 2), (.sbcIndY b, rd s (.indY b), 2)]

/-- The 8 forms of CMP. -/
def cmpForms (s : State) (v b : Byte) (w : Word) : List ReadForm :=
   [(.cmpImm v, v, 2), (.cmpZp b, rd s (.zp b), 2), (.cmpZpX b, rd s (.zpX b), 2),
    (.cmpAbs w, rd s (.abs w), 3), (.cmpAbsX w, rd s (.absX w), 3), (.cmpAbsY w, rd s (.absY w), 3),
    (.cmpIndX b, rd s (.indX b), 2), (.cmpIndY b, rd s (.indY b), 2)]

/-- The 3 forms of CPX. -/
def cpxForms (s : State) (v b : Byte) (w : Word) : List ReadForm :=
   [(.cpxImm v, v, 2), (.cpxZp b, rd s (.zp b), 2), (.cpxAbs w, rd s (.abs w), 3)]

/-- The 3 forms of CPY. -/
def cpyForms (s : State) (v b : Byte) (w : Word) : List ReadForm :=
   [(.cpyImm v, v, 2), (.cpyZp b, rd s (.zp b), 2), (.cpyAbs w, rd s (.abs w), 3)]

/-- The 8 forms of AND. -/
def andForms (s : State) (v b : Byte) (w : Word) : List ReadForm :=
   [(.andImm v, v, 2), (.andZp b, rd s (.zp b), 2), (.andZpX b, rd s (.zpX b), 2),
    (.andAbs w, rd s (.abs w), 3), (.andAbsX w, rd s (.absX w), 3), (.andAbsY w, rd s (.absY w), 3),
    (.andIndX b, rd s (.indX b), 2), (.andIndY b, rd s (.indY b), 2)]

/-- The 8 forms of ORA. -/
def oraForms (s : State) (v b : Byte) (w : Word) : List ReadForm :=
   [(.oraImm v, v, 2), (.oraZp b, rd s (.zp b), 2), (.oraZpX b, rd s (.zpX b), 2),
    (.oraAbs w, rd s (.abs w), 3), (.oraAbsX w, rd s (.absX w), 3), (.oraAbsY w, rd s (.absY w), 3),
    (.oraIndX b, rd s (.indX b), 2), (.oraIndY b, rd s (.indY b), 2)]

/-- The 8 forms of EOR. -/
def eorForms (s : State) (v b : Byte) (w : Word) : List ReadForm :=
   [(.eorImm v, v, 2), (.eorZp b, rd s (.zp b), 2), (.eorZpX b, rd s (.zpX b), 2),
    (.eorAbs w, rd s (.abs w), 3), (.eorAbsX w, rd s (.absX w), 3), (.eorAbsY w, rd s (.absY w), 3),
    (.eorIndX b, rd s (.indX b), 2), (.eorIndY b, rd s (.indY b), 2)]

/-- The 2 forms of BIT. -/
def bitForms (s : State) (b : Byte) (w : Word) : List ReadForm :=
   [(.bitZp b, rd s (.zp b), 2), (.bitAbs w, rd s (.abs w), 3)]

/-- The 7 forms of STA that write a Memory byte. -/
def staForms (b : Byte) (w : Word) : List WriteForm :=
   [(.staZp b, .zp b, 2), (.staZpX b, .zpX b, 2), (.staAbs w, .abs w, 3), (.staAbsX w, .absX w, 3),
    (.staAbsY w, .absY w, 3), (.staIndX b, .indX b, 2), (.staIndY b, .indY b, 2)]

/-- The 3 forms of STX that write a Memory byte. -/
def stxForms (b : Byte) (w : Word) : List WriteForm :=
   [(.stxZp b, .zp b, 2), (.stxZpY b, .zpY b, 2), (.stxAbs w, .abs w, 3)]

/-- The 3 forms of STY that write a Memory byte. -/
def styForms (b : Byte) (w : Word) : List WriteForm :=
   [(.styZp b, .zp b, 2), (.styZpX b, .zpX b, 2), (.styAbs w, .abs w, 3)]

/-- The 4 forms of INC that write a Memory byte. -/
def incForms (b : Byte) (w : Word) : List WriteForm :=
   [(.incZp b, .zp b, 2), (.incZpX b, .zpX b, 2), (.incAbs w, .abs w, 3), (.incAbsX w, .absX w, 3)]

/-- The 4 forms of DEC that write a Memory byte. -/
def decForms (b : Byte) (w : Word) : List WriteForm :=
   [(.decZp b, .zp b, 2), (.decZpX b, .zpX b, 2), (.decAbs w, .abs w, 3), (.decAbsX w, .absX w, 3)]

/-- The 4 forms of ASL that write a Memory byte. -/
def aslForms (b : Byte) (w : Word) : List WriteForm :=
   [(.aslZp b, .zp b, 2), (.aslZpX b, .zpX b, 2), (.aslAbs w, .abs w, 3), (.aslAbsX w, .absX w, 3)]

/-- The 4 forms of LSR that write a Memory byte. -/
def lsrForms (b : Byte) (w : Word) : List WriteForm :=
   [(.lsrZp b, .zp b, 2), (.lsrZpX b, .zpX b, 2), (.lsrAbs w, .abs w, 3), (.lsrAbsX w, .absX w, 3)]

/-- The 4 forms of ROL that write a Memory byte. -/
def rolForms (b : Byte) (w : Word) : List WriteForm :=
   [(.rolZp b, .zp b, 2), (.rolZpX b, .zpX b, 2), (.rolAbs w, .abs w, 3), (.rolAbsX w, .absX w, 3)]

/-- The 4 forms of ROR that write a Memory byte. -/
def rorForms (b : Byte) (w : Word) : List WriteForm :=
   [(.rorZp b, .zp b, 2), (.rorZpX b, .zpX b, 2), (.rorAbs w, .abs w, 3), (.rorAbsX w, .absX w, 3)]

/-- The 105 opcode bytes with no descriptor, as R84 lists them. -/
def unknownOpcodes : List Byte :=
  [0x02, 0x03, 0x04, 0x07, 0x0B, 0x0C, 0x0F, 0x12, 0x13, 0x14, 0x17, 0x1A, 0x1B, 0x1C, 0x1F, 0x22, 0x23, 0x27,
   0x2B, 0x2F, 0x32, 0x33, 0x34, 0x37, 0x3A, 0x3B, 0x3C, 0x3F, 0x42, 0x43, 0x44, 0x47, 0x4B, 0x4F, 0x52, 0x53,
   0x54, 0x57, 0x5A, 0x5B, 0x5C, 0x5F, 0x62, 0x63, 0x64, 0x67, 0x6B, 0x6F, 0x72, 0x73, 0x74, 0x77, 0x7A] ++
  [0x7B, 0x7C, 0x7F, 0x80, 0x82, 0x83, 0x87, 0x89, 0x8B, 0x8F, 0x92, 0x93, 0x97, 0x9B, 0x9C, 0x9E, 0x9F, 0xA3,
   0xA7, 0xAB, 0xAF, 0xB2, 0xB3, 0xB7, 0xBB, 0xBF, 0xC2, 0xC3, 0xC7, 0xCB, 0xCF, 0xD2, 0xD3, 0xD4, 0xD7, 0xDA,
   0xDB, 0xDC, 0xDF, 0xE2, 0xE3, 0xE7, 0xEB, 0xEF, 0xF2, 0xF3, 0xF4, 0xF7, 0xFA, 0xFB, 0xFC, 0xFF]

/-- The decoder's answer for the bytes at PC (R71). -/
abbrev decodedAtPc (s : State) : Decoded := decode (s.memRead s.pc) (s.memRead (s.pc + 1)) (s.memRead (s.pc + 2))

/-- The mnemonics that write each flag, by the table of R28. -/
def setsZN : List Mnemonic :=
  [.lda, .ldx, .ldy, .tax, .txa, .tay, .tya, .tsx, .pla, .inx, .iny, .dex, .dey, .inc, .dec, .adc, .sbc, .and, .ora,
   .eor, .asl, .lsr, .rol, .ror, .cmp, .cpx, .cpy, .bit, .plp]

def setsC : List Mnemonic := [.adc, .sbc, .cmp, .cpx, .cpy, .asl, .lsr, .rol, .ror, .clc, .sec, .plp]

def setsV : List Mnemonic := [.adc, .sbc, .bit, .clv, .plp]

/-- The mnemonics that set PC themselves (R26), and BRK, which leaves it. -/
def setsPc : List Mnemonic := [.jmp, .jsr, .rts, .brk]

/-- The eight branches with the condition each takes (the table of R180). -/
def branches (f : Flags) (off : Int) : List (Instr × Bool) :=
  [(.bpl off, !f.n), (.bmi off, f.n), (.bvc off, !f.v), (.bvs off, f.v), (.bcc off, !f.c), (.bcs off, f.c),
   (.bne off, !f.z), (.beq off, f.z)]

/-- The value a shift or rotate makes of `v` with Carry in `c`, and the bit it shifts out (R160 to R163). -/
def shifted (m : Mnemonic) (v : Nat) (c : Bool) : Nat × Bool :=
  match m with
  | .asl => ((2 * v) % 256, decide (128 ≤ v))
  | .lsr => (v / 2, decide (v % 2 = 1))
  | .rol => ((2 * v + c.toNat) % 256, decide (128 ≤ v))
  | .ror => (v / 2 + 128 * c.toNat, decide (v % 2 = 1))
  | _ => (v, c)

/-- The byte a storing instruction puts at its store address `ad`: the register of a store (R123 to R125), the Memory
byte plus or minus 1 (R138, R139), or the byte shifted (R160 to R163). -/
def storedByte (i : Instr) (s : State) (ad : Word) : Byte :=
  match i.mnemonic with
  | .sta => s.a
  | .stx => s.x
  | .sty => s.y
  | .inc => s.memRead ad + 1
  | .dec => s.memRead ad - 1
  | m => BitVec.ofNat 8 (shifted m (s.memRead ad).toNat s.flags.c).1

end Sys2Proof.Claims

open Sys2Proof.Claims

/-! ### Encoding and decoding -/

/-- Formats and opcode map of `30_encoding.md` sections 1 to 3; which byte stands for which row is the spec's decision D1
(log 5). -/
def Obligations.DecodeOfEncodeIsTheInstruction : Prop :=
  ∀ (i : Instr) (o b1 b2 : Byte), i.wellFormed = true → encode i <+: [o, b1, b2] → decode o b1 b2 = .instr i

/-- The other direction; the opcode bytes are the spec's decision D1 (log 5). -/
def Obligations.DecodedBytesAreTheEncoding : Prop :=
  ∀ (i : Instr) (o b1 b2 : Byte), decode o b1 b2 = .instr i → i.wellFormed = true ∧ encode i <+: [o, b1, b2]

/-- The list of R84 and that length and dispatch depend on the opcode byte alone; membership of the list is the spec's
decision D1 (log 5). -/
def Obligations.UnlistedOpcodesAreUnknown : Prop :=
  ∀ o b1 b2 : Byte,
    (decode o b1 b2 = .unknownOpcode o ↔ o ∈ unknownOpcodes) ∧
      ∀ o' : Byte, decode o b1 b2 = .unknownOpcode o' → o' = o

/-- What DOC0 itself fixes of the opcode map (R82). -/
def Obligations.SpecWordsDecode : Prop :=
  ∀ b1 b2 : Byte,
    decode 0xA9 0x05 b2 = .instr (.ldaImm 0x05) ∧ decode 0x8D 0x00 0x02 = .instr (.staAbs 0x0200) ∧
      decode 0x00 b1 b2 = .instr .brk ∧
      (Instr.ldaImm 0x05).mode.length = 2 ∧ (Instr.staAbs 0x0200).mode.length = 3 ∧ Instr.brk.mode.length = 1

/-- R74 and R75: one operand byte, used as it is in Immediate mode and zero-extended as a zero-page address; two operand
bytes, little-endian. -/
def Obligations.OperandBytesFollowTheOpcode : Prop :=
  ∀ (s : State) (i : Instr), decodedAtPc s = .instr i →
    (∀ v, i.operand = .imm v → v = s.memRead (s.pc + 1)) ∧
      (∀ b, i.operand = .mem (.zp b) ∨ i.operand = .mem (.zpX b) ∨ i.operand = .mem (.zpY b) ∨
          i.operand = .mem (.indX b) ∨ i.operand = .mem (.indY b) →
        b = s.memRead (s.pc + 1)) ∧
      (∀ w, i.operand = .mem (.abs w) ∨ i.operand = .mem (.absX w) ∨ i.operand = .mem (.absY w) ∨
          i.operand = .mem (.ind w) →
        w.toNat = (s.memRead (s.pc + 2)).toNat * 256 + (s.memRead (s.pc + 1)).toNat) ∧
      (∀ v : Byte, Source.value s (.imm v) = v) ∧ (∀ b : Byte, (ea s (.zp b)).toNat = b.toNat)

/-- R78, the cutoff C3 settles. -/
def Obligations.BranchOffsetIsTwosComplement : Prop :=
  ∀ (o op1 b2 : Byte) (i : Instr) (off : Int), decode o op1 b2 = .instr i → i.operand = .rel off →
    off = if op1.toNat ≤ 127 then (op1.toNat : Int) else (op1.toNat : Int) - 256

/-! ### The Step -/

/-- The Step of R90: fetch, dispatch, effect; nothing is added around `exec`, and PC holds the opcode's address during it
(R25). -/
def Obligations.StepRunsTheDecodedInstruction : Prop :=
  ∀ (s : State) (i : Instr), s.run = .running → decodedAtPc s = .instr i → step s = exec i s

/-- R91, whole. -/
def Obligations.HaltedStepChangesNothing : Prop :=
  ∀ s : State, s.run = .halted → step s = .next s

/-- R221 and R226; that PC stays is the spec's decision D23, the list its decision D1 (logs 5 and 14). -/
def Obligations.UnknownOpcodeHalts : Prop :=
  ∀ s : State, s.run = .running → s.memRead s.pc ∈ unknownOpcodes →
    step s = .next { s with run := .halted, haltCause := .unknownOpcode, haltPc := s.pc, haltOpcode := s.memRead s.pc }

/-- R200, R223; PC staying at the BRK and nothing being pushed are the spec's decisions D9 and D10 (log 9). -/
def Obligations.BrkSetsBreakAndHalts : Prop :=
  ∀ s : State,
    exec .brk s = .next { s with flags := { s.flags with b := true }, run := .halted, haltCause := .softwareBreak,
                                 haltPc := s.pc, haltOpcode := 0x00#8 } ∧
      (s.run = .running → s.memRead s.pc = 0x00#8 → step s = exec .brk s)

/-- R222, with R41 and R42 for the report: nothing else is an exception. That a Step answers a next state in every case,
halts included, is the model's reading of the spec (log 14, DEDUCED). -/
def Obligations.OnlyBrkHaltsOnceDispatched : Prop :=
  (∀ s : State, ∃ t, step s = .next t) ∧
    ∀ (i : Instr) (s t : State), i ≠ .brk → exec i s = .next t →
      t.run = s.run ∧ t.haltCause = s.haltCause ∧ t.haltPc = s.haltPc ∧ t.haltOpcode = s.haltOpcode

/-- R38, whole, the last clause being "No instruction reads `RUN`". -/
def Obligations.RunStateTransitions : Prop :=
  State.reset.run = .running ∧
    (∀ s t : State, s.run = .running → step s = .next t →
      (t.run = .halted ↔ decodedAtPc s = .unknownOpcode (s.memRead s.pc) ∨ decodedAtPc s = .instr .brk)) ∧
    (∀ s t : State, s.run = .halted → step s = .next t → t.run = .halted) ∧
    (∀ (p : Word) (s : State), (resetEvent p s).run = .running ∧ (resetEvent p s).pc = p) ∧
    ∀ (i : Instr) (s t : State) (r : RunState), exec i s = .next t →
      ∃ t', exec i { s with run := r } = .next t' ∧ { t' with run := t.run } = t

/-- R92: a Step executes exactly one instruction completely or halts, and a halt is a next state (log 14). -/
def Obligations.EveryInstructionCompletes : Prop :=
  ∀ (i : Instr) (s : State), ∃ t, exec i s = .next t

/-- R65, for every instruction that stores: what it stores where the next Step fetches is the opcode fetched there, with
no fence and no delay. Shift directions are the spec's general knowledge K4 (log 13). -/
def Obligations.StoredByteIsTheNextOpcode : Prop :=
  ∀ (i : Instr) (s : State), s.run = .running → decodedAtPc s = .instr i →
    storeAddr i s = some (s.pc + BitVec.ofNat 16 (encode i).length) →
      ∃ t, step s = .next t ∧ t.pc = s.pc + BitVec.ofNat 16 (encode i).length ∧ t.fetch.1 = storedByte i s t.pc ∧
        t.run = .running

/-! ### Invariants -/

/-- The canonical form is the model's own (log 3); it makes equal memories equal data. -/
def Obligations.StepKeepsMemoryCanonical : Prop :=
  ∀ s t : State, s.mem.wf = true → step s = .next t → t.mem.wf = true

/-- Memory is a mapping from 16-bit addresses to bytes (R50); the list form is the model's own (log 3). -/
def Obligations.CanonicalMemoriesAreEqualData : Prop :=
  ∀ m m' : Memory, m.wf = true → m'.wf = true → (∀ a : Word, m.read a.toNat = m'.read a.toNat) → m = m'

/-- R37 (a), which the spec derives from the push rule R170; the clamp is its decision D7 (log 8). -/
def Obligations.StepKeepsStackBottom : Prop :=
  ∀ s t : State, step s = .next t →
    t.slot 0 = s.slot 0 ∧ (StackBottomIntact s → StackBottomIntact t)

/-- R25, R41, R42, R226, R229; the codes, the zero report before a halt and PC staying are decisions D20, D10, D23
(logs 4, 9, 14, 15). -/
def Obligations.StepKeepsHaltReport : Prop :=
  ∀ s t : State, HaltReportConsistent s → step s = .next t → HaltReportConsistent t

/-- The three invariants over all runs of STEP and RESET events from a loaded program. `Reachable` leaves the host's byte
injection out, which is the model's choice (log 16, DESIGN CHOICE, unsafe). RESET leaves Memory and the stack by decision
D17 (log 17), power-on zeroes are D18 (log 3), the clamp D7 (log 8); the report rests on D10, D20 and D23 (logs 4, 9, 14,
15). -/
def Obligations.ReachableStatesAreSafe : Prop :=
  ∀ s : State, Reachable s → Safe s

/-- The base of the invariants; the values are those of R45, decisions D16, D18 and D20 (logs 3 and 4). -/
def Obligations.ResetIsSafe : Prop :=
  Safe State.reset

/-! ### Reset, power-on and the host -/

/-- The power-on column of R45; but for RUN and PC the values are decisions D16, D18 and D20 (logs 2, 3 and 4). -/
def Obligations.PowerOnState : Prop :=
  State.reset.run = .running ∧ State.reset.pc = 0x0600 ∧ State.reset.a = 0 ∧ State.reset.x = 0 ∧
    State.reset.y = 0 ∧ State.reset.sp = 0 ∧ (∀ j : Byte, State.reset.slot j = 0) ∧
    (∀ a : Word, State.reset.memRead a = 0) ∧ State.reset.haltCauseCode = 0 ∧ State.reset.haltPc = 0 ∧
    State.reset.haltOpcode = 0 ∧ State.reset.flags.pack = 0x20 ∧
    State.reset.flags =
      { c := false, z := false, i := false, d := false, b := false, v := false, n := false }

/-- R240, R241; the zeros and what is kept are decisions D16, D17, D20 (logs 4 and 17). -/
def Obligations.ResetEventReinitializes : Prop :=
  ∀ (p : Word) (s : State),
    resetEvent p s =
      { a := 0, x := 0, y := 0, sp := 0, pc := p, run := .running, haltCause := .none, haltPc := 0, haltOpcode := 0,
        flags := { c := false, z := false, i := false, d := false, b := false, v := false, n := false },
        stack := s.stack, mem := s.mem }

/-- R225; RESET winning is the spec's decision D27 (log 17). -/
def Obligations.ResetWinsOverStep : Prop :=
  ∀ (p : Word) (s : State) (st : Bool),
    clock { reset := some p, step := st } s = .next (resetEvent p s) ∧
      clock { reset := none, step := true } s = step s ∧ clock { reset := none, step := false } s = .next s

/-- The load clause is R63 with C13. The boot clause is R240 and R242: the blank Memory before the load is decision D18
(log 3), and `boot` with its two address arguments, and that the load comes from outside the machine, are the model's
choices (logs 1 and 2, DESIGN CHOICE). -/
def Obligations.ProgramLoadFillsAndDrops : Prop :=
  (∀ (program : List Byte) (l : Word) (m : Memory) (a : Word),
    (loadProgram program l.toNat m).read a.toNat =
      if l.toNat ≤ a.toNat then program.getD (a.toNat - l.toNat) (m.read a.toNat) else m.read a.toNat) ∧
    ∀ (program : List Byte) (l p : Word),
      (boot l p program).mem = loadProgram program l.toNat [] ∧ (boot l p program).run = .running ∧
        (boot l p program).pc = p

/-- R64; the addresses are OPEN (D21), so nothing is claimed of `Config.injectAddrs` but that `inject` uses it, and the
order of two writes to one address is the model's choice (log 16). -/
def Obligations.InjectionWritesTwoZeroPageBytes : Prop :=
  ∀ (p q v0 v1 : Byte) (s : State),
    (∀ a : Word, (injectAt (some (p, q)) v0 v1 s).memRead a =
        if a.toNat = q.toNat then v1 else if a.toNat = p.toNat then v0 else s.memRead a) ∧
      { injectAt (some (p, q)) v0 v1 s with mem := s.mem } = s ∧ injectAt none v0 v1 s = s ∧
      inject v0 v1 s = injectAt Config.injectAddrs v0 v1 s

/-- R40, R41, of the two outputs themselves; the numbers are the spec's decision D20 (log 15). -/
def Obligations.HaltOutputs : Prop :=
  (∀ s : State, s.halted = true ↔ s.run = .halted) ∧ HaltCause.none.code = 0 ∧ HaltCause.unknownOpcode.code = 1 ∧
    HaltCause.softwareBreak.code = 2 ∧
    ∀ s : State,
      s.haltCauseCode =
        match s.haltCause with
        | .none => 0
        | .unknownOpcode => 1
        | .softwareBreak => 2

/-! ### The addressing-mode resolver -/

/-- R104, R105. -/
def Obligations.ZeroPageAddressesStayInZeroPage : Prop :=
  ∀ (s : State) (b : Byte),
    (ea s (.zp b)).toNat = b.toNat ∧ (ea s (.zp b)).toNat < 256 ∧
      (ea s (.zpX b)).toNat = (b.toNat + s.x.toNat) % 256 ∧ (ea s (.zpX b)).toNat < 256

/-- R108, R109: no page-cross special-casing. -/
def Obligations.AbsoluteIndexedWrapsAt65536 : Prop :=
  ∀ (s : State) (w : Word),
    (ea s (.absX w)).toNat = (w.toNat + s.x.toNat) % 65536 ∧ (ea s (.absY w)).toNat = (w.toNat + s.y.toNat) % 65536

/-- R106, R107, R110 to R112; no carry suppression is decision D14, the zero-page wrap D15, jump targets D24 (log 12). -/
def Obligations.PointerModesReadLittleEndianPointers : Prop :=
  ∀ (s : State) (b : Byte) (w : Word),
    (ea s (.ind w)).toNat = (s.mem.read ((w.toNat + 1) % 65536)).toNat * 256 + (s.mem.read w.toNat).toNat ∧
      (ea s (.indX b)).toNat =
        (s.mem.read ((b.toNat + s.x.toNat + 1) % 256)).toNat * 256 +
          (s.mem.read ((b.toNat + s.x.toNat) % 256)).toNat ∧
      (ea s (.indY b)).toNat =
        ((s.mem.read ((b.toNat + 1) % 256)).toNat * 256 + (s.mem.read b.toNat).toNat + s.y.toNat) % 65536 ∧
      (ea s (.zpY b)).toNat = (b.toNat + s.y.toNat) % 256 ∧ ea s (.abs w) = w

/-! ### Loads, stores, transfers, increments -/

/-- R120 with R30 and R26. -/
def Obligations.LdaLoadsAndSetsZN : Prop :=
  ∀ (s : State) (v b : Byte) (w : Word), ∀ f ∈ ldaForms s v b w,
    exec f.1 s = .next { s with a := f.2.1, flags := zn s.flags f.2.1, pc := s.pc + BitVec.ofNat 16 f.2.2 }

/-- R121 and R122 with R30 and R26. -/
def Obligations.LdxLdyLoadAndSetZN : Prop :=
  ∀ (s : State) (v b : Byte) (w : Word),
    (∀ f ∈ ldxForms s v b w,
      exec f.1 s = .next { s with x := f.2.1, flags := zn s.flags f.2.1, pc := s.pc + BitVec.ofNat 16 f.2.2 }) ∧
      ∀ f ∈ ldyForms s v b w,
        exec f.1 s = .next { s with y := f.2.1, flags := zn s.flags f.2.1, pc := s.pc + BitVec.ofNat 16 f.2.2 }

/-- R30, whole: `SetZN` and the property of the loads. -/
def Obligations.LoadsSetZNFromTheLoadedByte : Prop :=
  ∀ (i : Instr) (s : State),
    (i.mnemonic = .lda → ∃ t, exec i s = .next t ∧ (t.flags.z = true ↔ t.a = 0) ∧ (t.flags.n = true ↔ 128 ≤ t.a.toNat)) ∧
      (i.mnemonic = .ldx → ∃ t, exec i s = .next t ∧ (t.flags.z = true ↔ t.x = 0) ∧
        (t.flags.n = true ↔ 128 ≤ t.x.toNat)) ∧
      (i.mnemonic = .ldy → ∃ t, exec i s = .next t ∧ (t.flags.z = true ↔ t.y = 0) ∧
        (t.flags.n = true ↔ 128 ≤ t.y.toNat)) ∧
      ∀ (f : Flags) (v : Byte), f.setZN v = { f with z := v == 0, n := v.msb }

/-- R123 to R125 with R53 and R26. -/
def Obligations.StoresWriteTheRegisterAtEA : Prop :=
  ∀ (s : State) (b : Byte) (w : Word),
    ∀ f ∈ (staForms b w).map (·, s.a) ++ (stxForms b w).map (·, s.x) ++ (styForms b w).map (·, s.y),
      ∃ t, exec f.1.1 s = .next t ∧ (∀ a : Word, t.memRead a = if a = ea s f.1.2.1 then f.2 else s.memRead a) ∧
        { t with mem := s.mem } = { s with pc := s.pc + BitVec.ofNat 16 f.1.2.2 }

/-- R130 to R133; that all four set N is the spec's decision D22 (log 13). -/
def Obligations.TransfersCopyAndSetZN : Prop :=
  ∀ s : State,
    exec .tax s = .next { s with x := s.a, flags := zn s.flags s.a, pc := s.pc + 1 } ∧
      exec .txa s = .next { s with a := s.x, flags := zn s.flags s.x, pc := s.pc + 1 } ∧
      exec .tay s = .next { s with y := s.a, flags := zn s.flags s.a, pc := s.pc + 1 } ∧
      exec .tya s = .next { s with a := s.y, flags := zn s.flags s.y, pc := s.pc + 1 }

/-- R134 to R137. -/
def Obligations.RegisterIncDecWrap : Prop :=
  ∀ s : State,
    (∃ r : Byte, r.toNat = (s.x.toNat + 1) % 256 ∧
      exec .inx s = .next { s with x := r, flags := zn s.flags r, pc := s.pc + 1 }) ∧
      (∃ r : Byte, r.toNat = (s.y.toNat + 1) % 256 ∧
        exec .iny s = .next { s with y := r, flags := zn s.flags r, pc := s.pc + 1 }) ∧
      (∃ r : Byte, r.toNat = (s.x.toNat + 255) % 256 ∧
        exec .dex s = .next { s with x := r, flags := zn s.flags r, pc := s.pc + 1 }) ∧
      ∃ r : Byte, r.toNat = (s.y.toNat + 255) % 256 ∧
        exec .dey s = .next { s with y := r, flags := zn s.flags r, pc := s.pc + 1 }

/-- R138, R139: the same EA for the read and the write (C8); 255 stands for minus 1 modulo 256. -/
def Obligations.MemoryIncDecWrap : Prop :=
  ∀ (s : State) (b : Byte) (w : Word),
    ∀ f ∈ (incForms b w).map (·, 1) ++ (decForms b w).map (·, 255),
      ∃ (t : State) (r : Byte), exec f.1.1 s = .next t ∧ r.toNat = ((rd s f.1.2.1).toNat + f.2) % 256 ∧
        (∀ a : Word, t.memRead a = if a = ea s f.1.2.1 then r else s.memRead a) ∧
        { t with mem := s.mem } = { s with flags := zn s.flags r, pc := s.pc + BitVec.ofNat 16 f.1.2.2 }

/-! ### Arithmetic, compares, logic, shifts -/

/-- The adder of R146; its overflow formula the spec derives from the definition of signed overflow, which is what is
stated here. -/
def Obligations.AdderIsExact : Prop :=
  ∀ (a m : Byte) (c : Bool),
    (addCore a m c).1.toNat = (a.toNat + m.toNat + c.toNat) % 256 ∧
      ((addCore a m c).2.1 = true ↔ 256 ≤ a.toNat + m.toNat + c.toNat) ∧
      ((addCore a m c).2.2 = true ↔ a.toInt + m.toInt + c.toNat < -128 ∨ 127 < a.toInt + m.toInt + c.toNat)

/-- R140; D having no effect is the spec's decision D13 (log 11). -/
def Obligations.AdcAddsWithCarry : Prop :=
  ∀ (s : State) (v b : Byte) (w : Word), ∀ f ∈ adcForms s v b w,
    ∃ t, exec f.1 s = .next t ∧
      t.a.toNat = (s.a.toNat + f.2.1.toNat + s.flags.c.toNat) % 256 ∧
      (t.flags.c = true ↔ 256 ≤ s.a.toNat + f.2.1.toNat + s.flags.c.toNat) ∧
      (t.flags.v = true ↔ s.a.toInt + f.2.1.toInt + s.flags.c.toNat < -128 ∨
        127 < s.a.toInt + f.2.1.toInt + s.flags.c.toNat) ∧
      (t.flags.z = true ↔ t.a = 0) ∧ (t.flags.n = true ↔ 128 ≤ t.a.toNat) ∧
      { t with a := s.a, flags := { t.flags with c := s.flags.c, v := s.flags.v, z := s.flags.z, n := s.flags.n } } =
        { s with pc := s.pc + BitVec.ofNat 16 f.2.2 }

/-- R141; the inverted borrow is the spec's decision D12, D having no effect D13 (log 11). -/
def Obligations.SbcSubtractsWithBorrow : Prop :=
  ∀ (s : State) (v b : Byte) (w : Word), ∀ f ∈ sbcForms s v b w,
    ∃ t, exec f.1 s = .next t ∧
      (t.a.toNat : Int) = ((s.a.toNat : Int) - f.2.1.toNat - (1 - s.flags.c.toNat)) % 256 ∧
      (t.flags.c = true ↔ 0 ≤ (s.a.toNat : Int) - f.2.1.toNat - (1 - s.flags.c.toNat)) ∧
      (t.flags.v = true ↔ s.a.toInt - f.2.1.toInt - (1 - s.flags.c.toNat) < -128 ∨
        127 < s.a.toInt - f.2.1.toInt - (1 - s.flags.c.toNat)) ∧
      (t.flags.z = true ↔ t.a = 0) ∧ (t.flags.n = true ↔ 128 ≤ t.a.toNat) ∧
      { t with a := s.a, flags := { t.flags with c := s.flags.c, v := s.flags.v, z := s.flags.z, n := s.flags.n } } =
        { s with pc := s.pc + BitVec.ofNat 16 f.2.2 }

/-- R143 to R145. -/
def Obligations.ComparesSetFlagsOnly : Prop :=
  ∀ (s : State) (v b : Byte) (w : Word),
    ∀ f ∈ (cmpForms s v b w).map (·, s.a) ++ (cpxForms s v b w).map (·, s.x) ++ (cpyForms s v b w).map (·, s.y),
      exec f.1.1 s = .next { s with
        flags := { s.flags with
          c := decide (f.1.2.1.toNat ≤ f.2.toNat), z := decide (f.2.toNat = f.1.2.1.toNat),
          n := decide (128 ≤ (f.2.toNat + 256 - f.1.2.1.toNat) % 256) }
        pc := s.pc + BitVec.ofNat 16 f.1.2.2 }

/-- R150 to R152; which mnemonic is which operation the spec takes from general knowledge, K6 (log 13). -/
def Obligations.LogicCombinesWithA : Prop :=
  ∀ (s : State) (v b : Byte) (w : Word),
    (∀ f ∈ andForms s v b w, exec f.1 s = .next
      { s with a := s.a &&& f.2.1, flags := zn s.flags (s.a &&& f.2.1), pc := s.pc + BitVec.ofNat 16 f.2.2 }) ∧
      (∀ f ∈ oraForms s v b w, exec f.1 s = .next
        { s with a := s.a ||| f.2.1, flags := zn s.flags (s.a ||| f.2.1), pc := s.pc + BitVec.ofNat 16 f.2.2 }) ∧
      ∀ f ∈ eorForms s v b w, exec f.1 s = .next
        { s with a := s.a ^^^ f.2.1, flags := zn s.flags (s.a ^^^ f.2.1), pc := s.pc + BitVec.ofNat 16 f.2.2 }

/-- R153. -/
def Obligations.BitTestsWithoutStoring : Prop :=
  ∀ (s : State) (b : Byte) (w : Word), ∀ f ∈ bitForms s b w,
    exec f.1 s = .next { s with
      flags := { s.flags with
        z := decide (s.a &&& f.2.1 = 0), n := decide (128 ≤ f.2.1.toNat), v := decide (64 ≤ f.2.1.toNat % 128) }
      pc := s.pc + BitVec.ofNat 16 f.2.2 }

/-- R160 to R163; the directions the spec takes from general knowledge, K4 (log 13). -/
def Obligations.AccumulatorShiftsByOneBit : Prop :=
  ∀ s : State, ∀ f ∈ [(Instr.aslAcc, Mnemonic.asl), (.lsrAcc, .lsr), (.rolAcc, .rol), (.rorAcc, .ror)],
    ∃ r : Byte, r.toNat = (shifted f.2 s.a.toNat s.flags.c).1 ∧
      exec f.1 s = .next { s with
        a := r, flags := { zn s.flags r with c := (shifted f.2 s.a.toNat s.flags.c).2 }, pc := s.pc + 1 }

/-- R160 to R163; the directions the spec takes from general knowledge, K4 (log 13). -/
def Obligations.MemoryShiftsByOneBit : Prop :=
  ∀ (s : State) (b : Byte) (w : Word),
    ∀ f ∈ (aslForms b w).map (·, Mnemonic.asl) ++ (lsrForms b w).map (·, Mnemonic.lsr) ++
        (rolForms b w).map (·, Mnemonic.rol) ++ (rorForms b w).map (·, Mnemonic.ror),
      ∃ (t : State) (r : Byte), exec f.1.1 s = .next t ∧
        r.toNat = (shifted f.2 (rd s f.1.2.1).toNat s.flags.c).1 ∧
        (∀ a : Word, t.memRead a = if a = ea s f.1.2.1 then r else s.memRead a) ∧
        { t with mem := s.mem } = { s with
          flags := { zn s.flags r with c := (shifted f.2 (rd s f.1.2.1).toNat s.flags.c).2 }
          pc := s.pc + BitVec.ofNat 16 f.1.2.2 }

/-! ### The stack -/

/-- R170, R172, R174; the bound and the clamp are decisions D6 and D7, the widening D8 (log 8). -/
def Obligations.PushesRaiseSpThenWrite : Prop :=
  ∀ (s : State), ∀ f ∈ [(Instr.pha, s.a), (.php, s.flags.pack)],
    ∃ t, exec f.1 s = .next t ∧ t.sp.toNat = min (s.sp.toNat + 1) 255 ∧ (t.slot t.sp).toNat = f.2.toNat ∧
      (∀ j : Byte, j ≠ t.sp → t.slot j = s.slot j) ∧
      { t with sp := s.sp, stack := s.stack } = { s with pc := s.pc + 1 }

/-- R171, R173, R175; the clamp is decision D7, the low byte D8, the bit positions D3 (logs 7 and 8). Subtraction of
natural numbers stops at 0. -/
def Obligations.PullsReadThenLowerSp : Prop :=
  ∀ (s : State) (m sp' : Byte), m.toNat = (s.slot s.sp).toNat % 256 → sp'.toNat = s.sp.toNat - 1 →
    exec .pla s = .next { s with a := m, flags := zn s.flags m, sp := sp', pc := s.pc + 1 } ∧
      exec .plp s = .next { s with
        flags := { n := m[7], v := m[6], b := m[4], d := m[3], i := m[2],
                   z := m[1], c := m[0] }
        sp := sp', pc := s.pc + 1 }

/-- R176, R177. -/
def Obligations.StackPointerTransfers : Prop :=
  ∀ s : State,
    exec .txs s = .next { s with sp := s.x, pc := s.pc + 1 } ∧
      exec .tsx s = .next { s with x := s.sp, flags := zn s.flags s.sp, pc := s.pc + 1 }

/-- R35 (a) through the two instructions; layout and clamp are decisions D3, D4, D7, D8 (logs 7 and 8). -/
def Obligations.StatusByteRoundTrip : Prop :=
  ∀ (s : State) (g : Flags),
    ∃ t u, exec .php s = .next t ∧ exec .plp { t with flags := g } = .next u ∧ u.flags = s.flags ∧
      (s.sp.toNat < 255 → u.sp = s.sp)

/-- R33 to R35; the positions are decision D3, bit 5 is D4 (log 7). -/
def Obligations.CodecPacksAndUnpacks : Prop :=
  (∀ f : Flags,
    f.pack.toNat = f.n.toNat * 128 + f.v.toNat * 64 + 32 + f.b.toNat * 16 + f.d.toNat * 8 + f.i.toNat * 4 +
      f.z.toNat * 2 + f.c.toNat ∧
    Flags.unpack f.pack = f) ∧
    ∀ b : Byte, (Flags.unpack b).pack = b ||| 0x20

/-! ### Branches, jumps, system and flag instructions -/

/-- R180 to R188; the base PC + 2 is decision D11, flag and polarity K5 (logs 10 and 13). -/
def Obligations.BranchesAddTheOffset : Prop :=
  ∀ (s : State) (off : Int), ∀ f ∈ branches s.flags off,
    ∃ t, exec f.1 s = .next t ∧
      (t.pc.toNat : Int) = ((s.pc.toNat : Int) + 2 + (if f.2 = true then off else 0)) % 65536 ∧
      { t with pc := s.pc } = s

/-- R190 to R193; decisions D7, D14 and D24 (logs 8 and 12). -/
def Obligations.JumpsSetPc : Prop :=
  ∀ (s : State) (w : Word),
    exec (.jmpAbs w) s = .next { s with pc := w } ∧
      (∃ t, exec (.jmpInd w) s = .next t ∧ { t with pc := s.pc } = s ∧
        t.pc.toNat = (s.memRead (w + 1)).toNat * 256 + (s.memRead w).toNat) ∧
      (∃ t, exec (.jsr w) s = .next t ∧ t.sp.toNat = min (s.sp.toNat + 1) 255 ∧
        (t.slot t.sp).toNat = (s.pc.toNat + 3) % 65536 ∧ (∀ j : Byte, j ≠ t.sp → t.slot j = s.slot j) ∧
        { t with sp := s.sp, stack := s.stack } = { s with pc := w }) ∧
      ∃ t, exec .rts s = .next t ∧ t.sp.toNat = s.sp.toNat - 1 ∧
        { t with sp := s.sp } = { s with pc := s.slot s.sp }

/-- The round trip of R193 and S4; what happens at SP = 255 is decision D7 (log 8). -/
def Obligations.JsrRtsRoundTrip : Prop :=
  ∀ (s : State) (w : Word),
    ∃ t u, exec (.jsr w) s = .next t ∧ exec .rts t = .next u ∧ t.pc = w ∧ u.pc.toNat = (s.pc.toNat + 3) % 65536 ∧
      (s.sp.toNat < 255 → u.sp = s.sp)

/-- R201, R202; RTI as a placeholder is kept by decision D9 (log 9). -/
def Obligations.NopAndRtiOnlyAdvance : Prop :=
  ∀ s : State, exec .nop s = .next { s with pc := s.pc + 1 } ∧ exec .rti s = .next { s with pc := s.pc + 1 }

/-- R204 to R210; including them is the spec's decision D2 (log 6). -/
def Obligations.FlagInstructionsWriteOneFlag : Prop :=
  ∀ s : State,
    exec .clc s = .next { s with flags := { s.flags with c := false }, pc := s.pc + 1 } ∧
      exec .sec s = .next { s with flags := { s.flags with c := true }, pc := s.pc + 1 } ∧
      exec .cli s = .next { s with flags := { s.flags with i := false }, pc := s.pc + 1 } ∧
      exec .sei s = .next { s with flags := { s.flags with i := true }, pc := s.pc + 1 } ∧
      exec .clv s = .next { s with flags := { s.flags with v := false }, pc := s.pc + 1 } ∧
      exec .cld s = .next { s with flags := { s.flags with d := false }, pc := s.pc + 1 } ∧
      exec .sed s = .next { s with flags := { s.flags with d := true }, pc := s.pc + 1 }

/-! ### Rules over all instructions -/

/-- The "written by" column of R28; the flag instructions are there by decision D2 (log 6). -/
def Obligations.FlagsAreWrittenOnlyByTheirInstructions : Prop :=
  ∀ (i : Instr) (s t : State), exec i s = .next t →
    (i.mnemonic ∉ setsC → t.flags.c = s.flags.c) ∧ (i.mnemonic ∉ setsZN → t.flags.z = s.flags.z) ∧
      (i.mnemonic ∉ setsZN → t.flags.n = s.flags.n) ∧ (i.mnemonic ∉ setsV → t.flags.v = s.flags.v) ∧
      (i.mnemonic ∉ [.cli, .sei, .plp] → t.flags.i = s.flags.i) ∧
      (i.mnemonic ∉ [.cld, .sed, .plp] → t.flags.d = s.flags.d) ∧
      (i.mnemonic ∉ [.brk, .plp] → t.flags.b = s.flags.b)

/-- R21 to R24, which the spec derives from the instruction rules. -/
def Obligations.RegistersAreWrittenOnlyByTheirInstructions : Prop :=
  ∀ (i : Instr) (s t : State), exec i s = .next t →
    (i.mnemonic ∉ [.lda, .pla, .txa, .tya, .adc, .sbc, .and, .ora, .eor] → i.mode ≠ .acc → t.a = s.a) ∧
      (i.mnemonic ∉ [.ldx, .tax, .tsx, .inx, .dex] → t.x = s.x) ∧
      (i.mnemonic ∉ [.ldy, .tay, .iny, .dey] → t.y = s.y) ∧
      (i.mnemonic ∉ [.txs, .pha, .php, .jsr, .pla, .plp, .rts] → t.sp = s.sp)

/-- R36, R51, R170: no load, store or fetch reaches the stack. -/
def Obligations.OnlyPushesWriteTheStack : Prop :=
  ∀ (i : Instr) (s t : State), exec i s = .next t →
    (i.mnemonic ∉ [.pha, .php, .jsr] → t.stack = s.stack) ∧ ∀ j : Byte, j ≠ t.sp → t.slot j = s.slot j

/-- R51, R53, R59, R100: one byte at EA, and pushes never touch Memory (R36). -/
def Obligations.MemoryChangesOnlyAtTheStoreAddress : Prop :=
  ∀ (i : Instr) (s t : State), exec i s = .next t →
    (∀ a : Word, storeAddr i s ≠ some a → t.memRead a = s.memRead a) ∧
      (storesToMemory i.mnemonic = false → t.mem = s.mem)

/-- R26; BRK leaving PC is decision D10 (log 9). -/
def Obligations.PcAdvancesByTheLength : Prop :=
  ∀ (i : Instr) (s t : State), exec i s = .next t →
    (i.mnemonic ∉ setsPc → i.mode ≠ .rel → t.pc.toNat = (s.pc.toNat + (encode i).length) % 65536) ∧
      (i.mnemonic = .brk → t.pc = s.pc)

/-- The "read by" column of R28 for I, D, B, with R142 and R224; decisions D13 and D25 (log 11). -/
def Obligations.InterruptDecimalBreakGateNothing : Prop :=
  ∀ (ins : Instr) (s t : State) (i d b : Bool), ins.mnemonic ≠ .php → exec ins s = .next t →
    ∃ t', exec ins { s with flags := { s.flags with i := i, d := d, b := b } } = .next t' ∧
      { t' with flags := { t'.flags with i := t.flags.i, d := t.flags.d, b := t.flags.b } } = t
end

