-- ==== Sys2Proof/Laws/State.lean ====
section
/-! SUPPORT. One lemma per field per update of State and of Flags, so that no proof unfolds a record update; and that an
update of one part leaves every Memory byte and every stack slot readable as before. -/

namespace Sys2Proof.Machine

/-! ### Registers, flags, Memory, stack -/

@[simp] theorem State.setA_a (s : State) (v : Byte) : (s.setA v).a = v := rfl
@[simp] theorem State.setA_x (s : State) (v : Byte) : (s.setA v).x = s.x := rfl
@[simp] theorem State.setA_y (s : State) (v : Byte) : (s.setA v).y = s.y := rfl
@[simp] theorem State.setA_sp (s : State) (v : Byte) : (s.setA v).sp = s.sp := rfl
@[simp] theorem State.setA_pc (s : State) (v : Byte) : (s.setA v).pc = s.pc := rfl
@[simp] theorem State.setA_flags (s : State) (v : Byte) : (s.setA v).flags = s.flags := rfl
@[simp] theorem State.setA_stack (s : State) (v : Byte) : (s.setA v).stack = s.stack := rfl
@[simp] theorem State.setA_mem (s : State) (v : Byte) : (s.setA v).mem = s.mem := rfl
@[simp] theorem State.setA_run (s : State) (v : Byte) : (s.setA v).run = s.run := rfl
@[simp] theorem State.setA_haltCause (s : State) (v : Byte) : (s.setA v).haltCause = s.haltCause := rfl
@[simp] theorem State.setA_haltPc (s : State) (v : Byte) : (s.setA v).haltPc = s.haltPc := rfl
@[simp] theorem State.setA_haltOpcode (s : State) (v : Byte) : (s.setA v).haltOpcode = s.haltOpcode := rfl
@[simp] theorem State.setA_memRead (s : State) (v : Byte) (b : Word) : (s.setA v).memRead b = s.memRead b := rfl
@[simp] theorem State.setA_slot (s : State) (v : Byte) (j : Byte) : (s.setA v).slot j = s.slot j := rfl

@[simp] theorem State.setX_a (s : State) (v : Byte) : (s.setX v).a = s.a := rfl
@[simp] theorem State.setX_x (s : State) (v : Byte) : (s.setX v).x = v := rfl
@[simp] theorem State.setX_y (s : State) (v : Byte) : (s.setX v).y = s.y := rfl
@[simp] theorem State.setX_sp (s : State) (v : Byte) : (s.setX v).sp = s.sp := rfl
@[simp] theorem State.setX_pc (s : State) (v : Byte) : (s.setX v).pc = s.pc := rfl
@[simp] theorem State.setX_flags (s : State) (v : Byte) : (s.setX v).flags = s.flags := rfl
@[simp] theorem State.setX_stack (s : State) (v : Byte) : (s.setX v).stack = s.stack := rfl
@[simp] theorem State.setX_mem (s : State) (v : Byte) : (s.setX v).mem = s.mem := rfl
@[simp] theorem State.setX_run (s : State) (v : Byte) : (s.setX v).run = s.run := rfl
@[simp] theorem State.setX_haltCause (s : State) (v : Byte) : (s.setX v).haltCause = s.haltCause := rfl
@[simp] theorem State.setX_haltPc (s : State) (v : Byte) : (s.setX v).haltPc = s.haltPc := rfl
@[simp] theorem State.setX_haltOpcode (s : State) (v : Byte) : (s.setX v).haltOpcode = s.haltOpcode := rfl
@[simp] theorem State.setX_memRead (s : State) (v : Byte) (b : Word) : (s.setX v).memRead b = s.memRead b := rfl
@[simp] theorem State.setX_slot (s : State) (v : Byte) (j : Byte) : (s.setX v).slot j = s.slot j := rfl

@[simp] theorem State.setY_a (s : State) (v : Byte) : (s.setY v).a = s.a := rfl
@[simp] theorem State.setY_x (s : State) (v : Byte) : (s.setY v).x = s.x := rfl
@[simp] theorem State.setY_y (s : State) (v : Byte) : (s.setY v).y = v := rfl
@[simp] theorem State.setY_sp (s : State) (v : Byte) : (s.setY v).sp = s.sp := rfl
@[simp] theorem State.setY_pc (s : State) (v : Byte) : (s.setY v).pc = s.pc := rfl
@[simp] theorem State.setY_flags (s : State) (v : Byte) : (s.setY v).flags = s.flags := rfl
@[simp] theorem State.setY_stack (s : State) (v : Byte) : (s.setY v).stack = s.stack := rfl
@[simp] theorem State.setY_mem (s : State) (v : Byte) : (s.setY v).mem = s.mem := rfl
@[simp] theorem State.setY_run (s : State) (v : Byte) : (s.setY v).run = s.run := rfl
@[simp] theorem State.setY_haltCause (s : State) (v : Byte) : (s.setY v).haltCause = s.haltCause := rfl
@[simp] theorem State.setY_haltPc (s : State) (v : Byte) : (s.setY v).haltPc = s.haltPc := rfl
@[simp] theorem State.setY_haltOpcode (s : State) (v : Byte) : (s.setY v).haltOpcode = s.haltOpcode := rfl
@[simp] theorem State.setY_memRead (s : State) (v : Byte) (b : Word) : (s.setY v).memRead b = s.memRead b := rfl
@[simp] theorem State.setY_slot (s : State) (v : Byte) (j : Byte) : (s.setY v).slot j = s.slot j := rfl

@[simp] theorem State.setSp_a (s : State) (v : Byte) : (s.setSp v).a = s.a := rfl
@[simp] theorem State.setSp_x (s : State) (v : Byte) : (s.setSp v).x = s.x := rfl
@[simp] theorem State.setSp_y (s : State) (v : Byte) : (s.setSp v).y = s.y := rfl
@[simp] theorem State.setSp_sp (s : State) (v : Byte) : (s.setSp v).sp = v := rfl
@[simp] theorem State.setSp_pc (s : State) (v : Byte) : (s.setSp v).pc = s.pc := rfl
@[simp] theorem State.setSp_flags (s : State) (v : Byte) : (s.setSp v).flags = s.flags := rfl
@[simp] theorem State.setSp_stack (s : State) (v : Byte) : (s.setSp v).stack = s.stack := rfl
@[simp] theorem State.setSp_mem (s : State) (v : Byte) : (s.setSp v).mem = s.mem := rfl
@[simp] theorem State.setSp_run (s : State) (v : Byte) : (s.setSp v).run = s.run := rfl
@[simp] theorem State.setSp_haltCause (s : State) (v : Byte) : (s.setSp v).haltCause = s.haltCause := rfl
@[simp] theorem State.setSp_haltPc (s : State) (v : Byte) : (s.setSp v).haltPc = s.haltPc := rfl
@[simp] theorem State.setSp_haltOpcode (s : State) (v : Byte) : (s.setSp v).haltOpcode = s.haltOpcode := rfl
@[simp] theorem State.setSp_memRead (s : State) (v : Byte) (b : Word) : (s.setSp v).memRead b = s.memRead b := rfl
@[simp] theorem State.setSp_slot (s : State) (v : Byte) (j : Byte) : (s.setSp v).slot j = s.slot j := rfl

@[simp] theorem State.setPc_a (s : State) (v : Word) : (s.setPc v).a = s.a := rfl
@[simp] theorem State.setPc_x (s : State) (v : Word) : (s.setPc v).x = s.x := rfl
@[simp] theorem State.setPc_y (s : State) (v : Word) : (s.setPc v).y = s.y := rfl
@[simp] theorem State.setPc_sp (s : State) (v : Word) : (s.setPc v).sp = s.sp := rfl
@[simp] theorem State.setPc_pc (s : State) (v : Word) : (s.setPc v).pc = v := rfl
@[simp] theorem State.setPc_flags (s : State) (v : Word) : (s.setPc v).flags = s.flags := rfl
@[simp] theorem State.setPc_stack (s : State) (v : Word) : (s.setPc v).stack = s.stack := rfl
@[simp] theorem State.setPc_mem (s : State) (v : Word) : (s.setPc v).mem = s.mem := rfl
@[simp] theorem State.setPc_run (s : State) (v : Word) : (s.setPc v).run = s.run := rfl
@[simp] theorem State.setPc_haltCause (s : State) (v : Word) : (s.setPc v).haltCause = s.haltCause := rfl
@[simp] theorem State.setPc_haltPc (s : State) (v : Word) : (s.setPc v).haltPc = s.haltPc := rfl
@[simp] theorem State.setPc_haltOpcode (s : State) (v : Word) : (s.setPc v).haltOpcode = s.haltOpcode := rfl
@[simp] theorem State.setPc_memRead (s : State) (v : Word) (b : Word) : (s.setPc v).memRead b = s.memRead b := rfl
@[simp] theorem State.setPc_slot (s : State) (v : Word) (j : Byte) : (s.setPc v).slot j = s.slot j := rfl

@[simp] theorem State.setFlags_a (s : State) (f : Flags) : (s.setFlags f).a = s.a := rfl
@[simp] theorem State.setFlags_x (s : State) (f : Flags) : (s.setFlags f).x = s.x := rfl
@[simp] theorem State.setFlags_y (s : State) (f : Flags) : (s.setFlags f).y = s.y := rfl
@[simp] theorem State.setFlags_sp (s : State) (f : Flags) : (s.setFlags f).sp = s.sp := rfl
@[simp] theorem State.setFlags_pc (s : State) (f : Flags) : (s.setFlags f).pc = s.pc := rfl
@[simp] theorem State.setFlags_flags (s : State) (f : Flags) : (s.setFlags f).flags = f := rfl
@[simp] theorem State.setFlags_stack (s : State) (f : Flags) : (s.setFlags f).stack = s.stack := rfl
@[simp] theorem State.setFlags_mem (s : State) (f : Flags) : (s.setFlags f).mem = s.mem := rfl
@[simp] theorem State.setFlags_run (s : State) (f : Flags) : (s.setFlags f).run = s.run := rfl
@[simp] theorem State.setFlags_haltCause (s : State) (f : Flags) : (s.setFlags f).haltCause = s.haltCause := rfl
@[simp] theorem State.setFlags_haltPc (s : State) (f : Flags) : (s.setFlags f).haltPc = s.haltPc := rfl
@[simp] theorem State.setFlags_haltOpcode (s : State) (f : Flags) : (s.setFlags f).haltOpcode = s.haltOpcode := rfl
@[simp] theorem State.setFlags_memRead (s : State) (f : Flags) (b : Word) : (s.setFlags f).memRead b = s.memRead b := rfl
@[simp] theorem State.setFlags_slot (s : State) (f : Flags) (j : Byte) : (s.setFlags f).slot j = s.slot j := rfl

@[simp] theorem State.setZN_a (s : State) (v : Byte) : (s.setZN v).a = s.a := rfl
@[simp] theorem State.setZN_x (s : State) (v : Byte) : (s.setZN v).x = s.x := rfl
@[simp] theorem State.setZN_y (s : State) (v : Byte) : (s.setZN v).y = s.y := rfl
@[simp] theorem State.setZN_sp (s : State) (v : Byte) : (s.setZN v).sp = s.sp := rfl
@[simp] theorem State.setZN_pc (s : State) (v : Byte) : (s.setZN v).pc = s.pc := rfl
@[simp] theorem State.setZN_flags (s : State) (v : Byte) : (s.setZN v).flags = s.flags.setZN v := rfl
@[simp] theorem State.setZN_stack (s : State) (v : Byte) : (s.setZN v).stack = s.stack := rfl
@[simp] theorem State.setZN_mem (s : State) (v : Byte) : (s.setZN v).mem = s.mem := rfl
@[simp] theorem State.setZN_run (s : State) (v : Byte) : (s.setZN v).run = s.run := rfl
@[simp] theorem State.setZN_haltCause (s : State) (v : Byte) : (s.setZN v).haltCause = s.haltCause := rfl
@[simp] theorem State.setZN_haltPc (s : State) (v : Byte) : (s.setZN v).haltPc = s.haltPc := rfl
@[simp] theorem State.setZN_haltOpcode (s : State) (v : Byte) : (s.setZN v).haltOpcode = s.haltOpcode := rfl
@[simp] theorem State.setZN_memRead (s : State) (v : Byte) (b : Word) : (s.setZN v).memRead b = s.memRead b := rfl
@[simp] theorem State.setZN_slot (s : State) (v : Byte) (j : Byte) : (s.setZN v).slot j = s.slot j := rfl

@[simp] theorem State.advance_a (s : State) (m : Mode) : (s.advance m).a = s.a := rfl
@[simp] theorem State.advance_x (s : State) (m : Mode) : (s.advance m).x = s.x := rfl
@[simp] theorem State.advance_y (s : State) (m : Mode) : (s.advance m).y = s.y := rfl
@[simp] theorem State.advance_sp (s : State) (m : Mode) : (s.advance m).sp = s.sp := rfl
@[simp] theorem State.advance_pc (s : State) (m : Mode) : (s.advance m).pc = s.pc + BitVec.ofNat 16 m.length := rfl
@[simp] theorem State.advance_flags (s : State) (m : Mode) : (s.advance m).flags = s.flags := rfl
@[simp] theorem State.advance_stack (s : State) (m : Mode) : (s.advance m).stack = s.stack := rfl
@[simp] theorem State.advance_mem (s : State) (m : Mode) : (s.advance m).mem = s.mem := rfl
@[simp] theorem State.advance_run (s : State) (m : Mode) : (s.advance m).run = s.run := rfl
@[simp] theorem State.advance_haltCause (s : State) (m : Mode) : (s.advance m).haltCause = s.haltCause := rfl
@[simp] theorem State.advance_haltPc (s : State) (m : Mode) : (s.advance m).haltPc = s.haltPc := rfl
@[simp] theorem State.advance_haltOpcode (s : State) (m : Mode) : (s.advance m).haltOpcode = s.haltOpcode := rfl
@[simp] theorem State.advance_memRead (s : State) (m : Mode) (b : Word) : (s.advance m).memRead b = s.memRead b := rfl
@[simp] theorem State.advance_slot (s : State) (m : Mode) (j : Byte) : (s.advance m).slot j = s.slot j := rfl

@[simp] theorem State.memWrite_a (s : State) (ad : Word) (v : Byte) : (s.memWrite ad v).a = s.a := rfl
@[simp] theorem State.memWrite_x (s : State) (ad : Word) (v : Byte) : (s.memWrite ad v).x = s.x := rfl
@[simp] theorem State.memWrite_y (s : State) (ad : Word) (v : Byte) : (s.memWrite ad v).y = s.y := rfl
@[simp] theorem State.memWrite_sp (s : State) (ad : Word) (v : Byte) : (s.memWrite ad v).sp = s.sp := rfl
@[simp] theorem State.memWrite_pc (s : State) (ad : Word) (v : Byte) : (s.memWrite ad v).pc = s.pc := rfl
@[simp] theorem State.memWrite_flags (s : State) (ad : Word) (v : Byte) : (s.memWrite ad v).flags = s.flags := rfl
@[simp] theorem State.memWrite_stack (s : State) (ad : Word) (v : Byte) : (s.memWrite ad v).stack = s.stack := rfl
@[simp] theorem State.memWrite_mem (s : State) (ad : Word) (v : Byte) : (s.memWrite ad v).mem = s.mem.write ad.toNat v := rfl
@[simp] theorem State.memWrite_run (s : State) (ad : Word) (v : Byte) : (s.memWrite ad v).run = s.run := rfl
@[simp] theorem State.memWrite_haltCause (s : State) (ad : Word) (v : Byte) : (s.memWrite ad v).haltCause = s.haltCause := rfl
@[simp] theorem State.memWrite_haltPc (s : State) (ad : Word) (v : Byte) : (s.memWrite ad v).haltPc = s.haltPc := rfl
@[simp] theorem State.memWrite_haltOpcode (s : State) (ad : Word) (v : Byte) : (s.memWrite ad v).haltOpcode = s.haltOpcode := rfl
@[simp] theorem State.memWrite_slot (s : State) (ad : Word) (v : Byte) (j : Byte) : (s.memWrite ad v).slot j = s.slot j := rfl

@[simp] theorem State.setSlot_a (s : State) (i : Byte) (v : Word) : (s.setSlot i v).a = s.a := rfl
@[simp] theorem State.setSlot_x (s : State) (i : Byte) (v : Word) : (s.setSlot i v).x = s.x := rfl
@[simp] theorem State.setSlot_y (s : State) (i : Byte) (v : Word) : (s.setSlot i v).y = s.y := rfl
@[simp] theorem State.setSlot_sp (s : State) (i : Byte) (v : Word) : (s.setSlot i v).sp = s.sp := rfl
@[simp] theorem State.setSlot_pc (s : State) (i : Byte) (v : Word) : (s.setSlot i v).pc = s.pc := rfl
@[simp] theorem State.setSlot_flags (s : State) (i : Byte) (v : Word) : (s.setSlot i v).flags = s.flags := rfl
@[simp] theorem State.setSlot_stack (s : State) (i : Byte) (v : Word) : (s.setSlot i v).stack = s.stack.set i.toNat v i.isLt := rfl
@[simp] theorem State.setSlot_mem (s : State) (i : Byte) (v : Word) : (s.setSlot i v).mem = s.mem := rfl
@[simp] theorem State.setSlot_run (s : State) (i : Byte) (v : Word) : (s.setSlot i v).run = s.run := rfl
@[simp] theorem State.setSlot_haltCause (s : State) (i : Byte) (v : Word) : (s.setSlot i v).haltCause = s.haltCause := rfl
@[simp] theorem State.setSlot_haltPc (s : State) (i : Byte) (v : Word) : (s.setSlot i v).haltPc = s.haltPc := rfl
@[simp] theorem State.setSlot_haltOpcode (s : State) (i : Byte) (v : Word) : (s.setSlot i v).haltOpcode = s.haltOpcode := rfl
@[simp] theorem State.setSlot_memRead (s : State) (i : Byte) (v : Word) (b : Word) : (s.setSlot i v).memRead b = s.memRead b := rfl

@[simp] theorem State.push16_a (s : State) (v : Word) : (s.push16 v).a = s.a := rfl
@[simp] theorem State.push16_x (s : State) (v : Word) : (s.push16 v).x = s.x := rfl
@[simp] theorem State.push16_y (s : State) (v : Word) : (s.push16 v).y = s.y := rfl
@[simp] theorem State.push16_sp (s : State) (v : Word) : (s.push16 v).sp = pushSp s.sp := rfl
@[simp] theorem State.push16_pc (s : State) (v : Word) : (s.push16 v).pc = s.pc := rfl
@[simp] theorem State.push16_flags (s : State) (v : Word) : (s.push16 v).flags = s.flags := rfl
@[simp] theorem State.push16_stack (s : State) (v : Word) : (s.push16 v).stack = s.stack.set (pushSp s.sp).toNat v (pushSp s.sp).isLt := rfl
@[simp] theorem State.push16_mem (s : State) (v : Word) : (s.push16 v).mem = s.mem := rfl
@[simp] theorem State.push16_run (s : State) (v : Word) : (s.push16 v).run = s.run := rfl
@[simp] theorem State.push16_haltCause (s : State) (v : Word) : (s.push16 v).haltCause = s.haltCause := rfl
@[simp] theorem State.push16_haltPc (s : State) (v : Word) : (s.push16 v).haltPc = s.haltPc := rfl
@[simp] theorem State.push16_haltOpcode (s : State) (v : Word) : (s.push16 v).haltOpcode = s.haltOpcode := rfl
@[simp] theorem State.push16_memRead (s : State) (v : Word) (b : Word) : (s.push16 v).memRead b = s.memRead b := rfl

@[simp] theorem State.popped_a (s : State) : (s.popped).a = s.a := rfl
@[simp] theorem State.popped_x (s : State) : (s.popped).x = s.x := rfl
@[simp] theorem State.popped_y (s : State) : (s.popped).y = s.y := rfl
@[simp] theorem State.popped_sp (s : State) : (s.popped).sp = popSp s.sp := rfl
@[simp] theorem State.popped_pc (s : State) : (s.popped).pc = s.pc := rfl
@[simp] theorem State.popped_flags (s : State) : (s.popped).flags = s.flags := rfl
@[simp] theorem State.popped_stack (s : State) : (s.popped).stack = s.stack := rfl
@[simp] theorem State.popped_mem (s : State) : (s.popped).mem = s.mem := rfl
@[simp] theorem State.popped_run (s : State) : (s.popped).run = s.run := rfl
@[simp] theorem State.popped_haltCause (s : State) : (s.popped).haltCause = s.haltCause := rfl
@[simp] theorem State.popped_haltPc (s : State) : (s.popped).haltPc = s.haltPc := rfl
@[simp] theorem State.popped_haltOpcode (s : State) : (s.popped).haltOpcode = s.haltOpcode := rfl
@[simp] theorem State.popped_memRead (s : State) (b : Word) : (s.popped).memRead b = s.memRead b := rfl
@[simp] theorem State.popped_slot (s : State) (j : Byte) : (s.popped).slot j = s.slot j := rfl

/-! ### Halts and RESET -/

@[simp] theorem raiseHalt_a (c : HaltCause) (o : Byte) (s : State) : (raiseHalt c o s).a = s.a := rfl
@[simp] theorem raiseHalt_x (c : HaltCause) (o : Byte) (s : State) : (raiseHalt c o s).x = s.x := rfl
@[simp] theorem raiseHalt_y (c : HaltCause) (o : Byte) (s : State) : (raiseHalt c o s).y = s.y := rfl
@[simp] theorem raiseHalt_sp (c : HaltCause) (o : Byte) (s : State) : (raiseHalt c o s).sp = s.sp := rfl
@[simp] theorem raiseHalt_pc (c : HaltCause) (o : Byte) (s : State) : (raiseHalt c o s).pc = s.pc := rfl
@[simp] theorem raiseHalt_flags (c : HaltCause) (o : Byte) (s : State) : (raiseHalt c o s).flags = s.flags := rfl
@[simp] theorem raiseHalt_stack (c : HaltCause) (o : Byte) (s : State) : (raiseHalt c o s).stack = s.stack := rfl
@[simp] theorem raiseHalt_mem (c : HaltCause) (o : Byte) (s : State) : (raiseHalt c o s).mem = s.mem := rfl
@[simp] theorem raiseHalt_run (c : HaltCause) (o : Byte) (s : State) : (raiseHalt c o s).run = .halted := rfl
@[simp] theorem raiseHalt_haltCause (c : HaltCause) (o : Byte) (s : State) : (raiseHalt c o s).haltCause = c := rfl
@[simp] theorem raiseHalt_haltPc (c : HaltCause) (o : Byte) (s : State) : (raiseHalt c o s).haltPc = s.pc := rfl
@[simp] theorem raiseHalt_haltOpcode (c : HaltCause) (o : Byte) (s : State) : (raiseHalt c o s).haltOpcode = o := rfl
@[simp] theorem raiseHalt_memRead (c : HaltCause) (o : Byte) (s : State) (b : Word) : (raiseHalt c o s).memRead b = s.memRead b := rfl
@[simp] theorem raiseHalt_slot (c : HaltCause) (o : Byte) (s : State) (j : Byte) : (raiseHalt c o s).slot j = s.slot j := rfl

@[simp] theorem resetEvent_a (p : Word) (s : State) : (resetEvent p s).a = 0x00#8 := rfl
@[simp] theorem resetEvent_x (p : Word) (s : State) : (resetEvent p s).x = 0x00#8 := rfl
@[simp] theorem resetEvent_y (p : Word) (s : State) : (resetEvent p s).y = 0x00#8 := rfl
@[simp] theorem resetEvent_sp (p : Word) (s : State) : (resetEvent p s).sp = 0x00#8 := rfl
@[simp] theorem resetEvent_pc (p : Word) (s : State) : (resetEvent p s).pc = p := rfl
@[simp] theorem resetEvent_flags (p : Word) (s : State) : (resetEvent p s).flags = Flags.reset := rfl
@[simp] theorem resetEvent_stack (p : Word) (s : State) : (resetEvent p s).stack = s.stack := rfl
@[simp] theorem resetEvent_mem (p : Word) (s : State) : (resetEvent p s).mem = s.mem := rfl
@[simp] theorem resetEvent_run (p : Word) (s : State) : (resetEvent p s).run = .running := rfl
@[simp] theorem resetEvent_haltCause (p : Word) (s : State) : (resetEvent p s).haltCause = .none := rfl
@[simp] theorem resetEvent_haltPc (p : Word) (s : State) : (resetEvent p s).haltPc = 0x0000#16 := rfl
@[simp] theorem resetEvent_haltOpcode (p : Word) (s : State) : (resetEvent p s).haltOpcode = 0x00#8 := rfl
@[simp] theorem resetEvent_memRead (p : Word) (s : State) (b : Word) : (resetEvent p s).memRead b = s.memRead b := rfl
@[simp] theorem resetEvent_slot (p : Word) (s : State) (j : Byte) : (resetEvent p s).slot j = s.slot j := rfl

/-! ### Flag computations -/

@[simp] theorem Flags.setZN_c (f : Flags) (v : Byte) : (f.setZN v).c = f.c := rfl
@[simp] theorem Flags.setZN_z (f : Flags) (v : Byte) : (f.setZN v).z = decide (v = 0x00#8) := rfl
@[simp] theorem Flags.setZN_i (f : Flags) (v : Byte) : (f.setZN v).i = f.i := rfl
@[simp] theorem Flags.setZN_d (f : Flags) (v : Byte) : (f.setZN v).d = f.d := rfl
@[simp] theorem Flags.setZN_b (f : Flags) (v : Byte) : (f.setZN v).b = f.b := rfl
@[simp] theorem Flags.setZN_v (f : Flags) (v : Byte) : (f.setZN v).v = f.v := rfl
@[simp] theorem Flags.setZN_n (f : Flags) (v : Byte) : (f.setZN v).n = v[7] := rfl

@[simp] theorem Flags.afterAdd_c (f : Flags) (r : Byte × Bool × Bool) : (f.afterAdd r).c = r.2.1 := rfl
@[simp] theorem Flags.afterAdd_z (f : Flags) (r : Byte × Bool × Bool) : (f.afterAdd r).z = decide (r.1 = 0x00#8) := rfl
@[simp] theorem Flags.afterAdd_i (f : Flags) (r : Byte × Bool × Bool) : (f.afterAdd r).i = f.i := rfl
@[simp] theorem Flags.afterAdd_d (f : Flags) (r : Byte × Bool × Bool) : (f.afterAdd r).d = f.d := rfl
@[simp] theorem Flags.afterAdd_b (f : Flags) (r : Byte × Bool × Bool) : (f.afterAdd r).b = f.b := rfl
@[simp] theorem Flags.afterAdd_v (f : Flags) (r : Byte × Bool × Bool) : (f.afterAdd r).v = r.2.2 := rfl
@[simp] theorem Flags.afterAdd_n (f : Flags) (r : Byte × Bool × Bool) : (f.afterAdd r).n = r.1[7] := rfl

@[simp] theorem Flags.afterCompare_c (f : Flags) (r m : Byte) : (f.afterCompare r m).c = decide (m.toNat ≤ r.toNat) := rfl
@[simp] theorem Flags.afterCompare_z (f : Flags) (r m : Byte) : (f.afterCompare r m).z = decide (r = m) := rfl
@[simp] theorem Flags.afterCompare_i (f : Flags) (r m : Byte) : (f.afterCompare r m).i = f.i := rfl
@[simp] theorem Flags.afterCompare_d (f : Flags) (r m : Byte) : (f.afterCompare r m).d = f.d := rfl
@[simp] theorem Flags.afterCompare_b (f : Flags) (r m : Byte) : (f.afterCompare r m).b = f.b := rfl
@[simp] theorem Flags.afterCompare_v (f : Flags) (r m : Byte) : (f.afterCompare r m).v = f.v := rfl
@[simp] theorem Flags.afterCompare_n (f : Flags) (r m : Byte) : (f.afterCompare r m).n = (r - m)[7] := rfl

@[simp] theorem Flags.afterBit_c (f : Flags) (r m : Byte) : (f.afterBit r m).c = f.c := rfl
@[simp] theorem Flags.afterBit_z (f : Flags) (r m : Byte) : (f.afterBit r m).z = decide (r &&& m = 0x00#8) := rfl
@[simp] theorem Flags.afterBit_i (f : Flags) (r m : Byte) : (f.afterBit r m).i = f.i := rfl
@[simp] theorem Flags.afterBit_d (f : Flags) (r m : Byte) : (f.afterBit r m).d = f.d := rfl
@[simp] theorem Flags.afterBit_b (f : Flags) (r m : Byte) : (f.afterBit r m).b = f.b := rfl
@[simp] theorem Flags.afterBit_v (f : Flags) (r m : Byte) : (f.afterBit r m).v = m[6] := rfl
@[simp] theorem Flags.afterBit_n (f : Flags) (r m : Byte) : (f.afterBit r m).n = m[7] := rfl

@[simp] theorem Flags.afterShift_c (f : Flags) (r : Byte × Bool) : (f.afterShift r).c = r.2 := rfl
@[simp] theorem Flags.afterShift_z (f : Flags) (r : Byte × Bool) : (f.afterShift r).z = decide (r.1 = 0x00#8) := rfl
@[simp] theorem Flags.afterShift_i (f : Flags) (r : Byte × Bool) : (f.afterShift r).i = f.i := rfl
@[simp] theorem Flags.afterShift_d (f : Flags) (r : Byte × Bool) : (f.afterShift r).d = f.d := rfl
@[simp] theorem Flags.afterShift_b (f : Flags) (r : Byte × Bool) : (f.afterShift r).b = f.b := rfl
@[simp] theorem Flags.afterShift_v (f : Flags) (r : Byte × Bool) : (f.afterShift r).v = f.v := rfl
@[simp] theorem Flags.afterShift_n (f : Flags) (r : Byte × Bool) : (f.afterShift r).n = r.1[7] := rfl

end Sys2Proof.Machine
end

