-- ==== Sys2Proof/Laws/Memory.lean ====
section
/-! SUPPORT. The laws of Memory: a read after a write, and that every Memory operation keeps the canonical form. -/

namespace Sys2Proof.Machine

/-! ### Reading -/

theorem Memory.read_erase (m : Memory) (a b : Nat) :
    (m.erase a).read b = if b = a then Config.unlistedByte else m.read b := by
  induction m with
  | nil => simp [Memory.erase, Memory.read]
  | cons p m ih =>
    obtain ⟨k, v⟩ := p
    by_cases hk : k = a
    · rw [Memory.erase, if_pos hk, ih, Memory.read]
      subst hk
      by_cases hb : b = k
      · rw [if_pos hb, if_pos hb]
      · rw [if_neg hb, if_neg hb, if_neg (Ne.symm hb)]
    · rw [Memory.erase, if_neg hk, Memory.read, Memory.read, ih]
      by_cases hb : k = b
      · subst hb
        rw [if_pos rfl, if_neg hk, if_pos rfl]
      · rw [if_neg hb, if_neg hb]

/-- No entry for `a`. -/
def Memory.Absent (m : Memory) (a : Nat) : Prop := ∀ p ∈ m, p.1 ≠ a

theorem Memory.absent_erase (m : Memory) (a : Nat) : (m.erase a).Absent a := by
  induction m with
  | nil => simp [Memory.Absent, Memory.erase]
  | cons p m ih =>
    obtain ⟨k, v⟩ := p
    by_cases hk : k = a
    · simpa [Memory.erase, hk] using ih
    · rw [Memory.erase, if_neg hk]
      exact List.forall_mem_cons.2 ⟨hk, ih⟩

theorem Memory.read_insert (m : Memory) (a b : Nat) (v : Byte) (h : m.Absent a) :
    (m.insert a v).read b = if b = a then v else m.read b := by
  induction m with
  | nil => simp [Memory.insert, Memory.read, eq_comm]
  | cons p m ih =>
    obtain ⟨k, u⟩ := p
    have hk : k ≠ a := h (k, u) (List.mem_cons_self ..)
    have hm : Memory.Absent m a := fun q hq => h q (List.mem_cons_of_mem _ hq)
    by_cases hlt : a < k
    · rw [Memory.insert, if_pos hlt, Memory.read]
      simp only [eq_comm]
    · rw [Memory.insert, if_neg hlt, Memory.read, Memory.read, ih hm]
      by_cases hb : k = b
      · subst hb
        rw [if_pos rfl, if_neg hk, if_pos rfl]
      · rw [if_neg hb, if_neg hb]

theorem Memory.read_write (m : Memory) (a b : Nat) (v : Byte) :
    (m.write a v).read b = if b = a then v else m.read b := by
  unfold Memory.write
  split
  · next h => rw [Memory.read_erase, h]
  · rw [Memory.read_insert _ _ _ _ (m.absent_erase a), Memory.read_erase]
    split <;> rfl

theorem State.memRead_memWrite (s : State) (a b : Word) (v : Byte) :
    (s.memWrite a v).memRead b = if b = a then v else s.memRead b := by
  simp [State.memRead, Memory.read_write, BitVec.toNat_inj]

/-! ### The canonical form -/

theorem Memory.wfFrom_cons (lo k : Nat) (v : Byte) (m : Memory) :
    Memory.wfFrom lo ((k, v) :: m) = true ↔
      lo ≤ k ∧ k < memSize ∧ v ≠ Config.unlistedByte ∧ Memory.wfFrom (k + 1) m = true := by
  simp only [Memory.wfFrom, Bool.and_eq_true, decide_eq_true_eq, and_assoc]

theorem Memory.wfFrom_mono {lo lo' : Nat} (h : lo ≤ lo') (m : Memory) (hm : m.wfFrom lo' = true) :
    m.wfFrom lo = true := by
  cases m with
  | nil => rfl
  | cons p m =>
    simp only [Memory.wfFrom, Bool.and_eq_true, decide_eq_true_eq] at hm ⊢
    exact ⟨⟨⟨h.trans hm.1.1.1, hm.1.1.2⟩, hm.1.2⟩, hm.2⟩

theorem Memory.wfFrom_erase (m : Memory) (a lo : Nat) (h : m.wfFrom lo = true) : (m.erase a).wfFrom lo = true := by
  induction m generalizing lo with
  | nil => rfl
  | cons p m ih =>
    obtain ⟨k, v⟩ := p
    simp only [Memory.wfFrom, Bool.and_eq_true, decide_eq_true_eq] at h
    have hm := ih _ h.2
    by_cases hk : k = a
    · rw [Memory.erase, if_pos hk]
      exact Memory.wfFrom_mono (Nat.le_succ_of_le h.1.1.1) _ hm
    · rw [Memory.erase, if_neg hk]
      simp only [Memory.wfFrom, Bool.and_eq_true, decide_eq_true_eq]
      exact ⟨h.1, hm⟩

theorem Memory.wfFrom_insert (m : Memory) (a lo : Nat) (v : Byte) (hlo : lo ≤ a) (ha : a < memSize)
    (hv : v ≠ Config.unlistedByte) (habs : m.Absent a) (h : m.wfFrom lo = true) :
    (m.insert a v).wfFrom lo = true := by
  induction m generalizing lo with
  | nil => simp [Memory.insert, Memory.wfFrom, hlo, ha, hv]
  | cons p m ih =>
    obtain ⟨k, u⟩ := p
    have hk : k ≠ a := habs (k, u) (List.mem_cons_self ..)
    have hm : Memory.Absent m a := fun q hq => habs q (List.mem_cons_of_mem _ hq)
    simp only [Memory.wfFrom, Bool.and_eq_true, decide_eq_true_eq] at h
    by_cases hlt : a < k
    · rw [Memory.insert, if_pos hlt]
      simp only [Memory.wfFrom, Bool.and_eq_true, decide_eq_true_eq]
      exact ⟨⟨⟨hlo, ha⟩, hv⟩, ⟨⟨hlt, h.1.1.2⟩, h.1.2⟩, h.2⟩
    · rw [Memory.insert, if_neg hlt]
      simp only [Memory.wfFrom, Bool.and_eq_true, decide_eq_true_eq]
      exact ⟨h.1, ih _ (by omega) hm h.2⟩

theorem Memory.wf_write (m : Memory) (a : Nat) (v : Byte) (ha : a < memSize) (h : m.wf = true) :
    (m.write a v).wf = true := by
  unfold Memory.write
  split
  · exact m.wfFrom_erase a 0 h
  · next hv => exact Memory.wfFrom_insert _ a 0 v (Nat.zero_le _) ha hv (m.absent_erase a) (m.wfFrom_erase a 0 h)

theorem State.memWrite_wf (s : State) (a : Word) (v : Byte) (h : s.mem.wf = true) : (s.memWrite a v).mem.wf = true :=
  Memory.wf_write _ _ _ a.isLt h

theorem loadProgram_wf (prog : List Byte) (a : Nat) (m : Memory) (h : m.wf = true) :
    (loadProgram prog a m).wf = true := by
  induction prog generalizing a m with
  | nil => exact h
  | cons b rest ih =>
    refine ih _ _ ?_
    split
    · next ha => exact Memory.wf_write _ _ _ ha h
    · exact h

theorem injectAt_wf (addrs : Option (Byte × Byte)) (v0 v1 : Byte) (s : State) (h : s.mem.wf = true) :
    (injectAt addrs v0 v1 s).mem.wf = true := by
  cases addrs with
  | none => exact h
  | some pq => exact State.memWrite_wf _ _ _ (State.memWrite_wf _ _ _ h)

/-- An address below every listed one reads as an unlisted one. -/
theorem Memory.read_below (m : Memory) (lo a : Nat) (h : m.wfFrom lo = true) (ha : a < lo) :
    m.read a = Config.unlistedByte := by
  induction m generalizing lo with
  | nil => rfl
  | cons p m ih =>
    obtain ⟨k, v⟩ := p
    simp only [Memory.wfFrom, Bool.and_eq_true, decide_eq_true_eq] at h
    have hk : ¬ k = a := by omega
    rw [Memory.read, if_neg hk]
    exact ih _ h.2 (by omega)

end Sys2Proof.Machine
end

