-- ==== Sys2Proof/Laws/Stack.lean ====
section
/-! SUPPORT. The laws of the stack array and of its two pointer rules. -/

namespace Sys2Proof.Machine

theorem State.slot_setSlot (s : State) (i j : Byte) (v : Word) :
    (s.setSlot i v).slot j = if j = i then v else s.slot j := by
  simp [State.slot, State.setSlot, Vector.getElem_set, BitVec.toNat_inj, eq_comm]

theorem State.slot_push16 (s : State) (j : Byte) (v : Word) :
    (s.push16 v).slot j = if j = pushSp s.sp then v else s.slot j := by
  rw [State.push16, State.slot_setSlot]
  rfl

theorem pushSp_toNat (sp : Byte) : (pushSp sp).toNat = min (sp.toNat + 1) 255 := by
  have := sp.isLt
  unfold pushSp stackTop
  split
  · next h =>
    change sp.toNat < 255 at h
    change (sp.toNat + 1) % 256 = _
    omega
  · next h =>
    change ¬ sp.toNat < 255 at h
    omega

theorem popSp_toNat (sp : Byte) : (popSp sp).toNat = sp.toNat - 1 := by
  have := sp.isLt
  unfold popSp
  split
  · next h =>
    rw [BitVec.toNat_sub]
    change (256 - 1 + sp.toNat) % 256 = _
    omega
  · next h => omega

theorem pushSp_ne_zero (sp : Byte) : pushSp sp ≠ 0x00#8 := by
  intro h
  have := pushSp_toNat sp
  rw [h, BitVec.toNat_ofNat] at this
  omega

end Sys2Proof.Machine
end

