-- ==== Sys2Proof/Laws/Flags.lean ====
section
/-! SUPPORT. Flags and widths as arithmetic: bits 7 and 6 of a byte, a flag as a number, a byte widened to 16 bits. -/

namespace Sys2Proof.Machine

theorem bit7_eq (v : Byte) : v[7] = decide (128 ≤ v.toNat) := by
  revert v
  decide +kernel

theorem bit6_eq (v : Byte) : v[6] = decide (64 ≤ v.toNat % 128) := by
  revert v
  decide +kernel

theorem bit_eq_toNat (f : Bool) : bit f = f.toNat := by
  cases f <;> rfl

theorem zext16_toNat (v : Byte) : (zext16 v).toNat = v.toNat := by
  have := v.isLt
  rw [zext16, BitVec.toNat_setWidth]
  exact Nat.mod_eq_of_lt (by omega)

theorem lowByte_zext16 (v : Byte) : lowByte (zext16 v) = v := by
  revert v
  decide +kernel

end Sys2Proof.Machine
end

