-- ==== Sys2Proof/Laws/Meanings.lean ====
section
/-! SUPPORT. One lemma per shared operation of the meanings: everything it does, as one record. -/

namespace Sys2Proof.Machine

theorem lda_next (src : Source) (s : State) :
    lda src s =
      { s with a := src.value s, flags := s.flags.setZN (src.value s), pc := s.pc + BitVec.ofNat 16 src.mode.length } := rfl

theorem ldx_next (src : Source) (s : State) :
    ldx src s =
      { s with x := src.value s, flags := s.flags.setZN (src.value s), pc := s.pc + BitVec.ofNat 16 src.mode.length } := rfl

theorem ldy_next (src : Source) (s : State) :
    ldy src s =
      { s with y := src.value s, flags := s.flags.setZN (src.value s), pc := s.pc + BitVec.ofNat 16 src.mode.length } := rfl

theorem store_next (v : Byte) (ad : Addr) (s : State) :
    store v ad s =
      { s with mem := s.mem.write (ea s ad).toNat v, pc := s.pc + BitVec.ofNat 16 ad.mode.length } := rfl

theorem transferToA_next (v : Byte) (s : State) :
    transferToA v s =
      { s with a := v, flags := s.flags.setZN v, pc := s.pc + BitVec.ofNat 16 Mode.impl.length } := rfl

theorem transferToX_next (v : Byte) (s : State) :
    transferToX v s =
      { s with x := v, flags := s.flags.setZN v, pc := s.pc + BitVec.ofNat 16 Mode.impl.length } := rfl

theorem transferToY_next (v : Byte) (s : State) :
    transferToY v s =
      { s with y := v, flags := s.flags.setZN v, pc := s.pc + BitVec.ofNat 16 Mode.impl.length } := rfl

theorem modify_next (r : Byte) (ad : Addr) (s : State) :
    modify r ad s =
      { s with mem := s.mem.write (ea s ad).toNat r, flags := s.flags.setZN r, pc := s.pc + BitVec.ofNat 16 ad.mode.length } := rfl

theorem addToA_next (m : Byte) (mode : Mode) (s : State) :
    addToA m mode s =
      { s with a := (addCore s.a m s.flags.c).1, flags := s.flags.afterAdd (addCore s.a m s.flags.c),
               pc := s.pc + BitVec.ofNat 16 mode.length } := rfl

theorem compare_next (reg : Byte) (src : Source) (s : State) :
    compare reg src s =
      { s with flags := s.flags.afterCompare reg (src.value s), pc := s.pc + BitVec.ofNat 16 src.mode.length } := rfl

theorem combine_next (r : Byte) (mode : Mode) (s : State) :
    combine r mode s =
      { s with a := r, flags := s.flags.setZN r, pc := s.pc + BitVec.ofNat 16 mode.length } := rfl

theorem bitTest_next (src : Source) (s : State) :
    bitTest src s =
      { s with flags := s.flags.afterBit s.a (src.value s), pc := s.pc + BitVec.ofNat 16 src.mode.length } := rfl

theorem shiftTarget_acc_next (res : Byte × Bool) (s : State) :
    shiftTarget res .acc s =
      { s with a := res.1, flags := s.flags.afterShift res, pc := s.pc + BitVec.ofNat 16 Mode.acc.length } := rfl

theorem shiftTarget_mem_next (res : Byte × Bool) (ad : Addr) (s : State) :
    shiftTarget res (.mem ad) s =
      { s with mem := s.mem.write (ea s ad).toNat res.1, flags := s.flags.afterShift res, pc := s.pc + BitVec.ofNat 16 ad.mode.length } := rfl

theorem pushByte_next (v : Byte) (s : State) :
    pushByte v s =
      { s with sp := pushSp s.sp, stack := s.stack.set (pushSp s.sp).toNat (zext16 v) (pushSp s.sp).isLt,
               pc := s.pc + BitVec.ofNat 16 Mode.impl.length } := rfl

theorem pullA_next (s : State) :
    pullA s =
      { s with a := lowByte s.popValue, flags := s.flags.setZN (lowByte s.popValue), sp := popSp s.sp,
               pc := s.pc + BitVec.ofNat 16 Mode.impl.length } := rfl

theorem pullFlags_next (s : State) :
    pullFlags s =
      { s with flags := Flags.unpack (lowByte s.popValue), sp := popSp s.sp, pc := s.pc + BitVec.ofNat 16 Mode.impl.length } := rfl

theorem transferToSp_next (v : Byte) (s : State) :
    transferToSp v s =
      { s with sp := v, pc := s.pc + BitVec.ofNat 16 Mode.impl.length } := rfl

theorem branch_next (cond : Bool) (off : Int) (s : State) :
    branch cond off s =
      { s with pc := if cond then branchTarget s.pc off else s.pc + BitVec.ofNat 16 Mode.rel.length } := by
  cases cond <;> rfl

@[simp] theorem branch_a (cond : Bool) (off : Int) (s : State) : (branch cond off s).a = s.a := by
  cases cond <;> rfl
@[simp] theorem branch_x (cond : Bool) (off : Int) (s : State) : (branch cond off s).x = s.x := by
  cases cond <;> rfl
@[simp] theorem branch_y (cond : Bool) (off : Int) (s : State) : (branch cond off s).y = s.y := by
  cases cond <;> rfl
@[simp] theorem branch_sp (cond : Bool) (off : Int) (s : State) : (branch cond off s).sp = s.sp := by
  cases cond <;> rfl
@[simp] theorem branch_flags (cond : Bool) (off : Int) (s : State) : (branch cond off s).flags = s.flags := by
  cases cond <;> rfl
@[simp] theorem branch_stack (cond : Bool) (off : Int) (s : State) : (branch cond off s).stack = s.stack := by
  cases cond <;> rfl
@[simp] theorem branch_mem (cond : Bool) (off : Int) (s : State) : (branch cond off s).mem = s.mem := by
  cases cond <;> rfl
@[simp] theorem branch_run (cond : Bool) (off : Int) (s : State) : (branch cond off s).run = s.run := by
  cases cond <;> rfl
@[simp] theorem branch_haltCause (cond : Bool) (off : Int) (s : State) : (branch cond off s).haltCause = s.haltCause := by
  cases cond <;> rfl
@[simp] theorem branch_haltPc (cond : Bool) (off : Int) (s : State) : (branch cond off s).haltPc = s.haltPc := by
  cases cond <;> rfl
@[simp] theorem branch_haltOpcode (cond : Bool) (off : Int) (s : State) : (branch cond off s).haltOpcode = s.haltOpcode := by
  cases cond <;> rfl

theorem jump_next (ad : Addr) (s : State) :
    jump ad s =
      { s with pc := ea s ad } := rfl

theorem callSubroutine_next (ad : Addr) (s : State) :
    callSubroutine ad s =
      { s with sp := pushSp s.sp, pc := ea s ad,
               stack := s.stack.set (pushSp s.sp).toNat (returnAddress s.pc) (pushSp s.sp).isLt } := rfl

theorem returnFromSubroutine_next (s : State) :
    returnFromSubroutine s =
      { s with sp := popSp s.sp, pc := s.popValue } := rfl

theorem softwareBreak_next (s : State) :
    softwareBreak s =
      { s with flags := { s.flags with b := true }, haltPc := s.pc, haltOpcode := 0x00#8,
               haltCause := .softwareBreak, run := .halted } := rfl

theorem noOperation_next (s : State) :
    noOperation s =
      { s with pc := s.pc + BitVec.ofNat 16 Mode.impl.length } := rfl

theorem setFlag_next (f : Flags) (s : State) :
    setFlag f s =
      { s with flags := f, pc := s.pc + BitVec.ofNat 16 Mode.impl.length } := rfl

/-- What a Step can do: nothing while Halted, run the decoded instruction, or halt on an unknown opcode byte. -/
theorem step_cases (s : State) :
    (s.run = .halted ∧ step s = .next s) ∨
    (s.run = .running ∧ ∃ i, decode s.fetch.1 s.fetch.2.1 s.fetch.2.2 = .instr i ∧ step s = exec i s) ∨
    (s.run = .running ∧ ∃ o, decode s.fetch.1 s.fetch.2.1 s.fetch.2.2 = .unknownOpcode o ∧
      step s = .next (raiseHalt .unknownOpcode o s)) := by
  unfold step
  cases s.run with
  | halted => exact .inl ⟨rfl, rfl⟩
  | running =>
    cases decode s.fetch.1 s.fetch.2.1 s.fetch.2.2 with
    | instr i => exact .inr (.inl ⟨rfl, i, rfl, rfl⟩)
    | unknownOpcode o => exact .inr (.inr ⟨rfl, o, rfl, rfl⟩)

/-- The decoder's two answers, by whether the table has the opcode byte. -/
theorem decode_cases (o b1 b2 : Byte) :
    (∃ mk, dispatch o = some mk ∧ decode o b1 b2 = .instr (mk.build b1 b2)) ∨
    (dispatch o = none ∧ decode o b1 b2 = .unknownOpcode o) := by
  unfold decode
  cases dispatch o with
  | some mk => exact .inl ⟨mk, rfl, rfl⟩
  | none => exact .inr ⟨rfl, rfl⟩

end Sys2Proof.Machine
end

