-- ==== Sys2Proof/Laws/Decode.lean ====
section
/-! SUPPORT. The laws of operand assembly: bytes of a word, and a branch offset and its byte. -/

namespace Sys2Proof

theorem wordOf_toNat (lo hi : Byte) : (wordOf lo hi).toNat = hi.toNat * 256 + lo.toNat := by
  have := lo.isLt
  simp only [wordOf, BitVec.toNat_append, Nat.shiftLeft_eq]
  rw [Nat.mul_comm, ← Nat.two_pow_add_eq_or_of_lt this, Nat.mul_comm]

theorem lowByte_toNat (w : Word) : (lowByte w).toNat = w.toNat % 256 := by
  simp [lowByte]

theorem highByte_toNat (w : Word) : (highByte w).toNat = w.toNat / 256 := by
  have := w.isLt
  simp [highByte, Nat.shiftRight_eq_div_pow]
  omega

@[simp] theorem wordOf_lowByte_highByte (w : Word) : wordOf (lowByte w) (highByte w) = w := by
  apply BitVec.eq_of_toNat_eq
  rw [wordOf_toNat, lowByte_toNat, highByte_toNat]
  omega

@[simp] theorem lowByte_wordOf (lo hi : Byte) : lowByte (wordOf lo hi) = lo := by
  have := lo.isLt
  apply BitVec.eq_of_toNat_eq
  rw [lowByte_toNat, wordOf_toNat]
  omega

@[simp] theorem highByte_wordOf (lo hi : Byte) : highByte (wordOf lo hi) = hi := by
  have := lo.isLt
  apply BitVec.eq_of_toNat_eq
  rw [highByte_toNat, wordOf_toNat]
  omega

theorem signedOffset_inRange (b : Byte) : offsetInRange (signedOffset b) = true := by
  have := b.isLt
  unfold offsetInRange signedOffset
  rw [decide_eq_true_eq]
  split <;> omega

@[simp] theorem offsetByte_signedOffset (b : Byte) : offsetByte (signedOffset b) = b := by
  have := b.isLt
  apply BitVec.eq_of_toNat_eq
  simp only [offsetByte, signedOffset, BitVec.toNat_ofInt]
  split <;> omega

theorem signedOffset_offsetByte (off : Int) (h : offsetInRange off = true) : signedOffset (offsetByte off) = off := by
  simp only [offsetInRange, decide_eq_true_eq] at h
  simp only [offsetByte, signedOffset, BitVec.toNat_ofInt]
  split <;> omega

end Sys2Proof
end

