-- ==== Sys2Proof/Laws/Inversion.lean ====
section
/-! SUPPORT. What any instruction can do to the two large parts of the state: Memory changes by at most one write at the
EA of its operand, the stack by at most one write at the slot a push names. -/

namespace Sys2Proof.Machine

theorem exec_mem_cases (i : Instr) (s t : State) (h : exec i s = .next t) :
    t.mem = s.mem ∨ ∃ ad v, i.operand = .mem ad ∧ t.mem = (s.memWrite (ea s ad) v).mem := by
  cases i with
  | bpl | bmi | bvc | bvs | bcc | bcs | bne | beq => injection h with h; subst h; exact .inl (branch_mem ..)
  | staZp | staZpX | staAbs | staAbsX | staAbsY | staIndX | staIndY | stxZp | stxZpY | stxAbs | styZp | styZpX |
    styAbs | incZp | incZpX | incAbs | incAbsX | decZp | decZpX | decAbs | decAbsX | aslZp | aslZpX | aslAbs |
    aslAbsX | lsrZp | lsrZpX | lsrAbs | lsrAbsX | rolZp | rolZpX | rolAbs | rolAbsX | rorZp | rorZpX | rorAbs |
    rorAbsX =>
    injection h with h; subst h; exact .inr ⟨_, _, rfl, rfl⟩
  | _ => injection h with h; subst h; exact .inl rfl

theorem exec_stack_cases (i : Instr) (s t : State) (h : exec i s = .next t) :
    t.stack = s.stack ∨ ∃ v, t.sp = pushSp s.sp ∧ t.stack = (s.setSlot (pushSp s.sp) v).stack := by
  cases i with
  | bpl | bmi | bvc | bvs | bcc | bcs | bne | beq => injection h with h; subst h; exact .inl (branch_stack ..)
  | pha | php | jsr => injection h with h; subst h; exact .inr ⟨_, rfl, rfl⟩
  | _ => injection h with h; subst h; exact .inl rfl

end Sys2Proof.Machine
end

