-- ==== Sys2Proof/Tests/Slice0.lean ====
section
/-! SUPPORT. The model's own tests: the well-formedness smoke test, decoding, single Steps with the results that
`95_test_vectors.md` gives, and for each obligation with hypotheses a witness that meets them. -/

open Sys2Proof Sys2Proof.Machine Sys2Proof.Claims

namespace Sys2Proof.Tests

/-! ### Well-formedness: the one check is the branch offset (R78) -/

theorem test_offset_too_large_refused :
    (Instr.bpl 128).wellFormed = false ∧ (Instr.bvc 128).wellFormed = false ∧ (Instr.bne 128).wellFormed = false := by
  decide

theorem test_offset_too_small_refused :
    (Instr.bmi (-129)).wellFormed = false ∧ (Instr.bcs (-129)).wellFormed = false ∧
      (Instr.beq (-129)).wellFormed = false := by
  decide

theorem test_offset_bounds_accepted :
    (Instr.bvs 127).wellFormed = true ∧ (Instr.bcc (-128)).wellFormed = true := by decide

/-! ### Decoding: every opcode byte of the matrix of R81, with the operand bytes 34 and F2

Little-endian, F234 (R75); as a branch offset 34 is 52 (R78). -/

/-- The decoder's answer for an opcode byte followed by 34 F2. -/
abbrev decodesTo (opcode : Byte) (i : Instr) : Bool := decide (decode opcode 0x34 0xF2 = .instr i)

theorem test_decode_loadstore :
    ∀ p ∈ ([
      (0x81, .staIndX 0x34), (0x84, .styZp 0x34), (0x85, .staZp 0x34), (0x86, .stxZp 0x34), (0x8C, .styAbs 0xF234),
      (0x8D, .staAbs 0xF234), (0x8E, .stxAbs 0xF234), (0x91, .staIndY 0x34), (0x94, .styZpX 0x34),
      (0x95, .staZpX 0x34), (0x96, .stxZpY 0x34), (0x99, .staAbsY 0xF234), (0x9D, .staAbsX 0xF234),
      (0xA0, .ldyImm 0x34), (0xA1, .ldaIndX 0x34), (0xA2, .ldxImm 0x34), (0xA4, .ldyZp 0x34), (0xA5, .ldaZp 0x34),
      (0xA6, .ldxZp 0x34), (0xA9, .ldaImm 0x34), (0xAC, .ldyAbs 0xF234), (0xAD, .ldaAbs 0xF234),
      (0xAE, .ldxAbs 0xF234), (0xB1, .ldaIndY 0x34), (0xB4, .ldyZpX 0x34), (0xB5, .ldaZpX 0x34),
      (0xB6, .ldxZpY 0x34), (0xB9, .ldaAbsY 0xF234), (0xBC, .ldyAbsX 0xF234), (0xBD, .ldaAbsX 0xF234),
      (0xBE, .ldxAbsY 0xF234)] :
      List (Byte × Instr)), decodesTo p.1 p.2 = true := by
  decide

theorem test_decode_transfer :
    ∀ p ∈ ([
      (0x8A, .txa), (0x98, .tya), (0xA8, .tay), (0xAA, .tax)] :
      List (Byte × Instr)), decodesTo p.1 p.2 = true := by
  decide

theorem test_decode_incdec :
    ∀ p ∈ ([
      (0x88, .dey), (0xC6, .decZp 0x34), (0xC8, .iny), (0xCA, .dex), (0xCE, .decAbs 0xF234), (0xD6, .decZpX 0x34),
      (0xDE, .decAbsX 0xF234), (0xE6, .incZp 0x34), (0xE8, .inx), (0xEE, .incAbs 0xF234), (0xF6, .incZpX 0x34),
      (0xFE, .incAbsX 0xF234)] :
      List (Byte × Instr)), decodesTo p.1 p.2 = true := by
  decide

theorem test_decode_arithmetic :
    ∀ p ∈ ([
      (0x61, .adcIndX 0x34), (0x65, .adcZp 0x34), (0x69, .adcImm 0x34), (0x6D, .adcAbs 0xF234),
      (0x71, .adcIndY 0x34), (0x75, .adcZpX 0x34), (0x79, .adcAbsY 0xF234), (0x7D, .adcAbsX 0xF234),
      (0xE1, .sbcIndX 0x34), (0xE5, .sbcZp 0x34), (0xE9, .sbcImm 0x34), (0xED, .sbcAbs 0xF234),
      (0xF1, .sbcIndY 0x34), (0xF5, .sbcZpX 0x34), (0xF9, .sbcAbsY 0xF234), (0xFD, .sbcAbsX 0xF234)] :
      List (Byte × Instr)), decodesTo p.1 p.2 = true := by
  decide

theorem test_decode_compare :
    ∀ p ∈ ([
      (0xC0, .cpyImm 0x34), (0xC1, .cmpIndX 0x34), (0xC4, .cpyZp 0x34), (0xC5, .cmpZp 0x34), (0xC9, .cmpImm 0x34),
      (0xCC, .cpyAbs 0xF234), (0xCD, .cmpAbs 0xF234), (0xD1, .cmpIndY 0x34), (0xD5, .cmpZpX 0x34),
      (0xD9, .cmpAbsY 0xF234), (0xDD, .cmpAbsX 0xF234), (0xE0, .cpxImm 0x34), (0xE4, .cpxZp 0x34),
      (0xEC, .cpxAbs 0xF234)] :
      List (Byte × Instr)), decodesTo p.1 p.2 = true := by
  decide

theorem test_decode_bitwise :
    ∀ p ∈ ([
      (0x01, .oraIndX 0x34), (0x05, .oraZp 0x34), (0x09, .oraImm 0x34), (0x0D, .oraAbs 0xF234),
      (0x11, .oraIndY 0x34), (0x15, .oraZpX 0x34), (0x19, .oraAbsY 0xF234), (0x1D, .oraAbsX 0xF234),
      (0x21, .andIndX 0x34), (0x24, .bitZp 0x34), (0x25, .andZp 0x34), (0x29, .andImm 0x34),
      (0x2C, .bitAbs 0xF234), (0x2D, .andAbs 0xF234), (0x31, .andIndY 0x34), (0x35, .andZpX 0x34),
      (0x39, .andAbsY 0xF234), (0x3D, .andAbsX 0xF234), (0x41, .eorIndX 0x34), (0x45, .eorZp 0x34),
      (0x49, .eorImm 0x34), (0x4D, .eorAbs 0xF234), (0x51, .eorIndY 0x34), (0x55, .eorZpX 0x34),
      (0x59, .eorAbsY 0xF234), (0x5D, .eorAbsX 0xF234)] :
      List (Byte × Instr)), decodesTo p.1 p.2 = true := by
  decide

theorem test_decode_shift :
    ∀ p ∈ ([
      (0x06, .aslZp 0x34), (0x0A, .aslAcc), (0x0E, .aslAbs 0xF234), (0x16, .aslZpX 0x34), (0x1E, .aslAbsX 0xF234),
      (0x26, .rolZp 0x34), (0x2A, .rolAcc), (0x2E, .rolAbs 0xF234), (0x36, .rolZpX 0x34), (0x3E, .rolAbsX 0xF234),
      (0x46, .lsrZp 0x34), (0x4A, .lsrAcc), (0x4E, .lsrAbs 0xF234), (0x56, .lsrZpX 0x34), (0x5E, .lsrAbsX 0xF234),
      (0x66, .rorZp 0x34), (0x6A, .rorAcc), (0x6E, .rorAbs 0xF234), (0x76, .rorZpX 0x34), (0x7E, .rorAbsX 0xF234)] :
      List (Byte × Instr)), decodesTo p.1 p.2 = true := by
  decide

theorem test_decode_stack :
    ∀ p ∈ ([
      (0x08, .php), (0x28, .plp), (0x48, .pha), (0x68, .pla), (0x9A, .txs), (0xBA, .tsx)] :
      List (Byte × Instr)), decodesTo p.1 p.2 = true := by
  decide

theorem test_decode_branch :
    ∀ p ∈ ([
      (0x10, .bpl 52), (0x30, .bmi 52), (0x50, .bvc 52), (0x70, .bvs 52), (0x90, .bcc 52), (0xB0, .bcs 52),
      (0xD0, .bne 52), (0xF0, .beq 52)] :
      List (Byte × Instr)), decodesTo p.1 p.2 = true := by
  decide

theorem test_decode_jump :
    ∀ p ∈ ([
      (0x20, .jsr 0xF234), (0x4C, .jmpAbs 0xF234), (0x60, .rts), (0x6C, .jmpInd 0xF234)] :
      List (Byte × Instr)), decodesTo p.1 p.2 = true := by
  decide

theorem test_decode_system :
    ∀ p ∈ ([
      (0x00, .brk), (0x18, .clc), (0x38, .sec), (0x40, .rti), (0x58, .cli), (0x78, .sei), (0xB8, .clv),
      (0xD8, .cld), (0xEA, .nop), (0xF8, .sed)] :
      List (Byte × Instr)), decodesTo p.1 p.2 = true := by
  decide

theorem test_decode_branch_backward : decode 0xD0 0xFB 0x00 = .instr (.bne (-5)) := by decide

theorem test_decode_unlisted :
    ∀ o ∈ ([0x02, 0x80, 0x1A, 0xEB, 0xFF] : List Byte), decode o 0x34 0xF2 = .unknownOpcode o := by
  decide

theorem test_table_sizes : dispatchTable.length = 151 ∧ unknownOpcodes.length = 105 := ⟨rfl, rfl⟩

theorem test_decodeTableWord :
    decodeTableWord 16 0x05A9 = some (.ldaImm 0x05) ∧ decodeTableWord 24 0x02008D = some (.staAbs 0x0200) ∧
      decodeTableWord 8 0x00 = some .brk ∧ decodeTableWord 8 0x4C = some (.jmpAbs 0x0000) ∧
      decodeTableWord 8 0x02 = none := by
  decide

theorem test_encode_little_endian :
    encode (.jmpInd 0x12FF) = [0x6C, 0xFF, 0x12] ∧ encode (.bne (-5)) = [0xD0, 0xFB] ∧ encode .rts = [0x60] := by
  decide

/-! ### One Step each, from `95_test_vectors.md`; the name ends in the vector's id -/

/-- Flags from the digits of N V B D I Z C, as the vector tables list them. -/
def fl (n v b d i z c : Nat) : Flags :=
  { n := n == 1, v := v == 1, b := b == 1, d := d == 1, i := i == 1, z := z == 1, c := c == 1 }

/-- A state with bytes put in Memory, one after the other. -/
def poke (l : List (Word × Byte)) (s : State) : State := l.foldl (fun s p => s.memWrite p.1 p.2) s

/-- A state with values put in stack slots. -/
def fill (l : List (Byte × Word)) (s : State) : State := l.foldl (fun s p => s.setSlot p.1 p.2) s

/-- A state with instruction bytes at PC. -/
def code (bytes : List Byte) (s : State) : State := { s with mem := loadProgram bytes s.pc.toNat s.mem }

/-- The state after one Step. -/
def after (s : State) : State :=
  match step s with
  | .next t => t
  | .fault _ => s
  | .refused _ => s

theorem test_lda_A3 :
    let t := after (code [0xB5, 0xFE] (poke [(0x0003, 0x9A), (0x0103, 0x11)] { State.reset with x := 0x05 }))
    t.a = 0x9A ∧ t.pc = 0x0602 ∧ t.flags = fl 1 0 0 0 0 0 0 := by decide

theorem test_ldx_A4 :
    let t := after (code [0xB6, 0xFF] (poke [(0x0001, 0x33), (0x0101, 0x44)] { State.reset with y := 0x02 }))
    t.x = 0x33 ∧ t.pc = 0x0602 ∧ t.flags = fl 0 0 0 0 0 0 0 := by decide

theorem test_lda_A6 :
    let t := after (code [0xBD, 0xF0, 0x12] (poke [(0x1310, 0x77)] { State.reset with x := 0x20 }))
    t.a = 0x77 ∧ t.pc = 0x0603 ∧ t.flags = fl 0 0 0 0 0 0 0 := by decide

theorem test_lda_A7 :
    let t := after (code [0xBD, 0xFF, 0xFF] (poke [(0x0001, 0x21)] { State.reset with x := 0x02 }))
    t.a = 0x21 ∧ t.pc = 0x0603 ∧ t.flags = fl 0 0 0 0 0 0 0 := by decide

theorem test_lda_A8 :
    let t := after (code [0xB9, 0xF0, 0xFF] (poke [(0x0010, 0x22)] { State.reset with y := 0x20 }))
    t.a = 0x22 ∧ t.pc = 0x0603 ∧ t.flags = fl 0 0 0 0 0 0 0 := by decide

theorem test_lda_A9 :
    let t := after (code [0xA1, 0x20] (poke [(0x0024, 0x00), (0x0025, 0x03), (0x0300, 0x5A)]
      { State.reset with x := 0x04 }))
    t.a = 0x5A ∧ t.pc = 0x0602 ∧ t.flags = fl 0 0 0 0 0 0 0 := by decide

theorem test_lda_A10 :
    let t := after (code [0xA1, 0xFE] (poke [(0x00FF, 0x34), (0x0000, 0x12), (0x0100, 0x99), (0x1234, 0x6B),
      (0x9934, 0x01)] { State.reset with x := 0x01 }))
    t.a = 0x6B ∧ t.pc = 0x0602 ∧ t.flags = fl 0 0 0 0 0 0 0 := by decide

theorem test_lda_A11 :
    let t := after (code [0xB1, 0x40] (poke [(0x0040, 0xF0), (0x0041, 0x12), (0x1310, 0x3C)]
      { State.reset with y := 0x20 }))
    t.a = 0x3C ∧ t.pc = 0x0602 ∧ t.flags = fl 0 0 0 0 0 0 0 := by decide

theorem test_lda_A13 :
    let t := after (code [0xB1, 0x40] (poke [(0x0040, 0xFF), (0x0041, 0xFF), (0x00FE, 0x5E)]
      { State.reset with y := 0xFF }))
    t.a = 0x5E ∧ t.pc = 0x0602 ∧ t.flags = fl 0 0 0 0 0 0 0 := by decide

theorem test_jmp_A14 :
    let t := after (code [0x6C, 0xFF, 0x12] (poke [(0x12FF, 0x00), (0x1300, 0x40), (0x1200, 0x80)] State.reset))
    t.pc = 0x4000 ∧ t.flags = fl 0 0 0 0 0 0 0 := by decide

theorem test_lda_A15 :
    let t := after (poke [(0xFFFF, 0xA9), (0x0000, 0x77)] { State.reset with pc := 0xFFFF })
    t.a = 0x77 ∧ t.pc = 0x0001 ∧ t.flags = fl 0 0 0 0 0 0 0 := by decide

theorem test_lda_A16 :
    let t := after (poke [(0xFFFE, 0xAD), (0xFFFF, 0x00), (0x0000, 0x03)] (poke [(0x0300, 0x66)]
      { State.reset with pc := 0xFFFE }))
    t.a = 0x66 ∧ t.pc = 0x0001 ∧ t.flags = fl 0 0 0 0 0 0 0 := by decide

theorem test_lda_L1 :
    let t := after (code [0xA9, 0x00] { State.reset with a := 0x55, flags := fl 1 0 0 0 0 0 0 })
    t.a = 0x00 ∧ t.pc = 0x0602 ∧ t.flags = fl 0 0 0 0 0 1 0 := by decide

theorem test_ldx_L4 :
    let t := after (code [0xA2, 0xFF] State.reset)
    t.x = 0xFF ∧ t.pc = 0x0602 ∧ t.flags = fl 1 0 0 0 0 0 0 := by decide

theorem test_ldy_L5 :
    let t := after (code [0xA0, 0x00] { State.reset with y := 0x09 })
    t.y = 0x00 ∧ t.pc = 0x0602 ∧ t.flags = fl 0 0 0 0 0 1 0 := by decide

theorem test_ldx_L6 :
    let t := after (code [0xAE, 0x00, 0x02] (poke [(0x0200, 0x80)] State.reset))
    t.x = 0x80 ∧ t.pc = 0x0603 ∧ t.flags = fl 1 0 0 0 0 0 0 := by decide

theorem test_ldy_L7 :
    let t := after (code [0xB4, 0x10] (poke [(0x0011, 0x01)] { State.reset with x := 0x01 }))
    t.y = 0x01 ∧ t.pc = 0x0602 ∧ t.flags = fl 0 0 0 0 0 0 0 := by decide

theorem test_sta_L8 :
    let t := after (code [0x8D, 0x00, 0x02] { State.reset with a := 0x05 })
    t.pc = 0x0603 ∧ t.memRead 0x0200 = 0x05 ∧ t.flags = fl 0 0 0 0 0 0 0 := by decide

theorem test_sta_L9 :
    let t := after (code [0x85, 0x10] { State.reset with a := 0x00, flags := fl 1 0 0 0 0 0 0 })
    t.pc = 0x0602 ∧ t.flags = fl 1 0 0 0 0 0 0 := by decide

theorem test_stx_L10 :
    let t := after (code [0x96, 0xFF] { State.reset with x := 0xAB, y := 0x02 })
    t.pc = 0x0602 ∧ t.memRead 0x0001 = 0xAB ∧ t.flags = fl 0 0 0 0 0 0 0 := by decide

theorem test_sty_L11 :
    let t := after (code [0x94, 0x80] { State.reset with y := 0xCD, x := 0x90 })
    t.pc = 0x0602 ∧ t.memRead 0x0010 = 0xCD ∧ t.flags = fl 0 0 0 0 0 0 0 := by decide

theorem test_sta_L12 :
    let t := after (code [0x91, 0x40] (poke [(0x0040, 0x00), (0x0041, 0x02)]
      { State.reset with a := 0xEE, y := 0x10 }))
    t.pc = 0x0602 ∧ t.memRead 0x0210 = 0xEE ∧ t.flags = fl 0 0 0 0 0 0 0 := by decide

theorem test_sta_L13 :
    let t := after (code [0x81, 0x40] (poke [(0x0042, 0x34), (0x0043, 0x12)]
      { State.reset with a := 0x11, x := 0x02 }))
    t.pc = 0x0602 ∧ t.memRead 0x1234 = 0x11 ∧ t.flags = fl 0 0 0 0 0 0 0 := by decide

theorem test_sta_L14 :
    let t := after (code [0x9D, 0xFF, 0xFF] { State.reset with a := 0x99, x := 0x01 })
    t.pc = 0x0603 ∧ t.memRead 0x0000 = 0x99 ∧ t.flags = fl 0 0 0 0 0 0 0 := by decide

theorem test_sta_L15 :
    let t := after (code [0x8D, 0x01, 0x06] { State.reset with a := 0xEA })
    t.pc = 0x0603 ∧ t.memRead 0x0601 = 0xEA ∧ t.flags = fl 0 0 0 0 0 0 0 := by decide

theorem test_tax_T1 :
    let t := after (code [0xAA] { State.reset with a := 0x00, x := 0x55 })
    t.x = 0x00 ∧ t.pc = 0x0601 ∧ t.flags = fl 0 0 0 0 0 1 0 := by decide

theorem test_txa_T2 :
    let t := after (code [0x8A] { State.reset with x := 0x80 })
    t.a = 0x80 ∧ t.pc = 0x0601 ∧ t.flags = fl 1 0 0 0 0 0 0 := by decide

theorem test_tay_T3 :
    let t := after (code [0xA8] { State.reset with a := 0x7F, flags := fl 1 0 0 0 0 0 0 })
    t.y = 0x7F ∧ t.pc = 0x0601 ∧ t.flags = fl 0 0 0 0 0 0 0 := by decide

theorem test_tya_T4 :
    let t := after (code [0x98] { State.reset with y := 0xFF, a := 0x01 })
    t.a = 0xFF ∧ t.pc = 0x0601 ∧ t.flags = fl 1 0 0 0 0 0 0 := by decide

theorem test_inx_T5 :
    let t := after (code [0xE8] { State.reset with x := 0xFF })
    t.x = 0x00 ∧ t.pc = 0x0601 ∧ t.flags = fl 0 0 0 0 0 1 0 := by decide

theorem test_iny_T6 :
    let t := after (code [0xC8] { State.reset with y := 0x7F })
    t.y = 0x80 ∧ t.pc = 0x0601 ∧ t.flags = fl 1 0 0 0 0 0 0 := by decide

theorem test_dex_T7 :
    let t := after (code [0xCA] { State.reset with x := 0x00 })
    t.x = 0xFF ∧ t.pc = 0x0601 ∧ t.flags = fl 1 0 0 0 0 0 0 := by decide

theorem test_dey_T8 :
    let t := after (code [0x88] { State.reset with y := 0x01 })
    t.y = 0x00 ∧ t.pc = 0x0601 ∧ t.flags = fl 0 0 0 0 0 1 0 := by decide

theorem test_inc_T9 :
    let t := after (code [0xE6, 0x10] (poke [(0x0010, 0xFF)] State.reset))
    t.pc = 0x0602 ∧ t.memRead 0x0010 = 0x00 ∧ t.flags = fl 0 0 0 0 0 1 0 := by decide

theorem test_dec_T10 :
    let t := after (code [0xC6, 0x10] (poke [(0x0010, 0x00)] State.reset))
    t.pc = 0x0602 ∧ t.memRead 0x0010 = 0xFF ∧ t.flags = fl 1 0 0 0 0 0 0 := by decide

theorem test_inc_T11 :
    let t := after (code [0xFE, 0x00, 0x02] (poke [(0x0203, 0x7F)] { State.reset with x := 0x03 }))
    t.pc = 0x0603 ∧ t.memRead 0x0203 = 0x80 ∧ t.flags = fl 1 0 0 0 0 0 0 := by decide

theorem test_dec_T12 :
    let t := after (code [0xD6, 0xFF] (poke [(0x0001, 0x01)] { State.reset with x := 0x02 }))
    t.pc = 0x0602 ∧ t.memRead 0x0001 = 0x00 ∧ t.flags = fl 0 0 0 0 0 1 0 := by decide

theorem test_adc_M5 :
    let t := after (code [0x69, 0x00] { State.reset with a := 0x7F, flags := fl 0 0 0 0 0 0 1 })
    t.a = 0x80 ∧ t.pc = 0x0602 ∧ t.flags = fl 1 1 0 0 0 0 0 := by decide

theorem test_adc_M7 :
    let t := after (code [0x69, 0x01] { State.reset with a := 0x09, flags := fl 0 0 0 1 0 0 0 })
    t.a = 0x0A ∧ t.pc = 0x0602 ∧ t.flags = fl 0 0 0 1 0 0 0 := by decide

theorem test_adc_M9 :
    let t := after (code [0x65, 0x10] (poke [(0x0010, 0x20)] { State.reset with a := 0x10 }))
    t.a = 0x30 ∧ t.pc = 0x0602 ∧ t.flags = fl 0 0 0 0 0 0 0 := by decide

theorem test_sbc_M11 :
    let t := after (code [0xE9, 0x05] { State.reset with a := 0x05 })
    t.a = 0xFF ∧ t.pc = 0x0602 ∧ t.flags = fl 1 0 0 0 0 0 0 := by decide

theorem test_sbc_M13 :
    let t := after (code [0xE9, 0xFF] { State.reset with a := 0x7F, flags := fl 0 0 0 0 0 0 1 })
    t.a = 0x80 ∧ t.pc = 0x0602 ∧ t.flags = fl 1 1 0 0 0 0 0 := by decide

theorem test_cmp_M18 :
    let t := after (code [0xC9, 0x06] { State.reset with a := 0x05 })
    t.pc = 0x0602 ∧ t.flags = fl 1 0 0 0 0 0 0 := by decide

theorem test_cmp_M22 :
    let t := after (code [0xC9, 0x80] { State.reset with a := 0x00, flags := fl 0 1 0 0 0 0 0 })
    t.pc = 0x0602 ∧ t.flags = fl 1 1 0 0 0 0 0 := by decide

theorem test_cpx_M23 :
    let t := after (code [0xE0, 0x10] { State.reset with x := 0x10, a := 0xFF })
    t.pc = 0x0602 ∧ t.flags = fl 0 0 0 0 0 1 1 := by decide

theorem test_cpy_M24 :
    let t := after (code [0xC4, 0x20] (poke [(0x0020, 0xFF)] { State.reset with y := 0x01 }))
    t.pc = 0x0602 ∧ t.flags = fl 0 0 0 0 0 0 0 := by decide

theorem test_and_B1 :
    let t := after (code [0x29, 0x0F] { State.reset with a := 0xF0 })
    t.a = 0x00 ∧ t.pc = 0x0602 ∧ t.flags = fl 0 0 0 0 0 1 0 := by decide

theorem test_ora_B3 :
    let t := after (code [0x09, 0x01] { State.reset with a := 0x80 })
    t.a = 0x81 ∧ t.pc = 0x0602 ∧ t.flags = fl 1 0 0 0 0 0 0 := by decide

theorem test_eor_B5 :
    let t := after (code [0x49, 0xFF] { State.reset with a := 0xFF })
    t.a = 0x00 ∧ t.pc = 0x0602 ∧ t.flags = fl 0 0 0 0 0 1 0 := by decide

theorem test_bit_B7 :
    let t := after (code [0x24, 0x10] (poke [(0x0010, 0xC0)] { State.reset with a := 0x01 }))
    t.pc = 0x0602 ∧ t.flags = fl 1 1 0 0 0 1 0 := by decide

theorem test_bit_B8 :
    let t := after (code [0x24, 0x10] (poke [(0x0010, 0x3F)]
      { State.reset with a := 0xFF, flags := fl 1 1 0 0 0 1 0 }))
    t.pc = 0x0602 ∧ t.flags = fl 0 0 0 0 0 0 0 := by decide

theorem test_bit_B9 :
    let t := after (code [0x2C, 0x00, 0x02] (poke [(0x0200, 0x40)]
      { State.reset with a := 0x40, flags := fl 0 0 0 0 0 0 1 }))
    t.pc = 0x0603 ∧ t.flags = fl 0 1 0 0 0 0 1 := by decide

theorem test_asl_H2 :
    let t := after (code [0x0A] { State.reset with a := 0x80 })
    t.a = 0x00 ∧ t.pc = 0x0601 ∧ t.flags = fl 0 0 0 0 0 1 1 := by decide

theorem test_asl_H3 :
    let t := after (code [0x0A] { State.reset with a := 0x40, flags := fl 0 0 0 0 0 0 1 })
    t.a = 0x80 ∧ t.pc = 0x0601 ∧ t.flags = fl 1 0 0 0 0 0 0 := by decide

theorem test_lsr_H4 :
    let t := after (code [0x4A] { State.reset with a := 0x01 })
    t.a = 0x00 ∧ t.pc = 0x0601 ∧ t.flags = fl 0 0 0 0 0 1 1 := by decide

theorem test_lsr_H5 :
    let t := after (code [0x4A] { State.reset with a := 0x80, flags := fl 1 0 0 0 0 0 1 })
    t.a = 0x40 ∧ t.pc = 0x0601 ∧ t.flags = fl 0 0 0 0 0 0 0 := by decide

theorem test_rol_H6 :
    let t := after (code [0x2A] { State.reset with a := 0x80, flags := fl 0 0 0 0 0 0 1 })
    t.a = 0x01 ∧ t.pc = 0x0601 ∧ t.flags = fl 0 0 0 0 0 0 1 := by decide

theorem test_rol_H7 :
    let t := after (code [0x2A] { State.reset with a := 0x40 })
    t.a = 0x80 ∧ t.pc = 0x0601 ∧ t.flags = fl 1 0 0 0 0 0 0 := by decide

theorem test_ror_H8 :
    let t := after (code [0x6A] { State.reset with a := 0x01, flags := fl 0 0 0 0 0 0 1 })
    t.a = 0x80 ∧ t.pc = 0x0601 ∧ t.flags = fl 1 0 0 0 0 0 1 := by decide

theorem test_ror_H10 :
    let t := after (code [0x6A] { State.reset with a := 0x01 })
    t.a = 0x00 ∧ t.pc = 0x0601 ∧ t.flags = fl 0 0 0 0 0 1 1 := by decide

theorem test_asl_H11 :
    let t := after (code [0x06, 0x10] (poke [(0x0010, 0xC1)] State.reset))
    t.pc = 0x0602 ∧ t.memRead 0x0010 = 0x82 ∧ t.flags = fl 1 0 0 0 0 0 1 := by decide

theorem test_ror_H12 :
    let t := after (code [0x7E, 0x00, 0x02] (poke [(0x0201, 0x02)]
      { State.reset with x := 0x01, flags := fl 0 0 0 0 0 0 1 }))
    t.pc = 0x0603 ∧ t.memRead 0x0201 = 0x81 ∧ t.flags = fl 1 0 0 0 0 0 0 := by decide

theorem test_lsr_H13 :
    let t := after (code [0x56, 0xFF] (poke [(0x0000, 0x03)] { State.reset with x := 0x01 }))
    t.pc = 0x0602 ∧ t.memRead 0x0000 = 0x01 ∧ t.flags = fl 0 0 0 0 0 0 1 := by decide

theorem test_rol_H14 :
    let t := after (code [0x2E, 0x00, 0x03] (poke [(0x0300, 0xFF)]
      { State.reset with a := 0x55, flags := fl 0 0 0 0 0 0 1 }))
    t.pc = 0x0603 ∧ t.flags = fl 1 0 0 0 0 0 1 := by decide

theorem test_pha_W2 :
    let t := after (code [0x48] { State.reset with a := 0x80, sp := 0x10 })
    t.sp = 0x11 ∧ t.pc = 0x0601 ∧ t.slot 17 = 0x0080 ∧ t.flags = fl 0 0 0 0 0 0 0 := by decide

theorem test_pha_W17 :
    let t := after (code [0x48] (fill [(255, 0x1111)] { State.reset with a := 0x42, sp := 0xFF }))
    t.sp = 0xFF ∧ t.pc = 0x0601 ∧ t.slot 255 = 0x0042 ∧ t.flags = fl 0 0 0 0 0 0 0 := by decide

theorem test_pla_W4 :
    let t := after (code [0x68] (fill [(1, 0x0603)] { State.reset with sp := 0x01, a := 0x11 }))
    t.a = 0x03 ∧ t.sp = 0x00 ∧ t.pc = 0x0601 ∧ t.flags = fl 0 0 0 0 0 0 0 := by decide

theorem test_pla_W5 :
    let t := after (code [0x68] { State.reset with sp := 0x00, a := 0x11 })
    t.a = 0x00 ∧ t.sp = 0x00 ∧ t.pc = 0x0601 ∧ t.flags = fl 0 0 0 0 0 1 0 := by decide

theorem test_php_W9 :
    let t := after (code [0x08] { State.reset with flags := fl 1 1 1 1 1 1 1 })
    t.sp = 0x01 ∧ t.pc = 0x0601 ∧ t.slot 1 = 0x00FF ∧ t.flags = fl 1 1 1 1 1 1 1 := by decide

theorem test_plp_W11 :
    let t := after (code [0x28] (fill [(1, 0x0020)] { State.reset with sp := 0x01, flags := fl 1 1 1 1 1 1 1 }))
    t.sp = 0x00 ∧ t.pc = 0x0601 ∧ t.flags = fl 0 0 0 0 0 0 0 := by decide

theorem test_plp_W12 :
    let t := after (code [0x28] (fill [(1, 0x06C3)] { State.reset with sp := 0x01 }))
    t.sp = 0x00 ∧ t.pc = 0x0601 ∧ t.flags = fl 1 1 0 0 0 1 1 := by decide

theorem test_txs_W14 :
    let t := after (code [0x9A] { State.reset with x := 0xFF, flags := fl 0 0 0 0 0 1 0 })
    t.sp = 0xFF ∧ t.pc = 0x0601 ∧ t.flags = fl 0 0 0 0 0 1 0 := by decide

theorem test_tsx_W15 :
    let t := after (code [0xBA] { State.reset with sp := 0x00, x := 0x33 })
    t.x = 0x00 ∧ t.pc = 0x0601 ∧ t.flags = fl 0 0 0 0 0 1 0 := by decide

theorem test_tsx_W16 :
    let t := after (code [0xBA] { State.reset with sp := 0x80 })
    t.x = 0x80 ∧ t.pc = 0x0601 ∧ t.flags = fl 1 0 0 0 0 0 0 := by decide

theorem test_bne_J3 :
    let t := after (code [0xD0, 0xFB] State.reset)
    t.pc = 0x05FD ∧ t.flags = fl 0 0 0 0 0 0 0 := by decide

theorem test_beq_J4 :
    let t := after (code [0xF0, 0x80] { State.reset with flags := fl 0 0 0 0 0 1 0 })
    t.pc = 0x0582 ∧ t.flags = fl 0 0 0 0 0 1 0 := by decide

theorem test_beq_J5 :
    let t := after (code [0xF0, 0x7F] { State.reset with flags := fl 0 0 0 0 0 1 0 })
    t.pc = 0x0681 ∧ t.flags = fl 0 0 0 0 0 1 0 := by decide

theorem test_bpl_J8 :
    let t := after (code [0x10, 0x10] State.reset)
    t.pc = 0x0612 ∧ t.flags = fl 0 0 0 0 0 0 0 := by decide

theorem test_bpl_J9 :
    let t := after (code [0x10, 0x10] { State.reset with flags := fl 1 0 0 0 0 0 0 })
    t.pc = 0x0602 ∧ t.flags = fl 1 0 0 0 0 0 0 := by decide

theorem test_bmi_J10 :
    let t := after (code [0x30, 0x10] { State.reset with flags := fl 1 0 0 0 0 0 0 })
    t.pc = 0x0612 ∧ t.flags = fl 1 0 0 0 0 0 0 := by decide

theorem test_bmi_J11 :
    let t := after (code [0x30, 0x10] State.reset)
    t.pc = 0x0602 ∧ t.flags = fl 0 0 0 0 0 0 0 := by decide

theorem test_bvc_J12 :
    let t := after (code [0x50, 0x10] State.reset)
    t.pc = 0x0612 ∧ t.flags = fl 0 0 0 0 0 0 0 := by decide

theorem test_bvc_J13 :
    let t := after (code [0x50, 0x10] { State.reset with flags := fl 0 1 0 0 0 0 0 })
    t.pc = 0x0602 ∧ t.flags = fl 0 1 0 0 0 0 0 := by decide

theorem test_bvs_J14 :
    let t := after (code [0x70, 0x10] { State.reset with flags := fl 0 1 0 0 0 0 0 })
    t.pc = 0x0612 ∧ t.flags = fl 0 1 0 0 0 0 0 := by decide

theorem test_bvs_J15 :
    let t := after (code [0x70, 0x10] State.reset)
    t.pc = 0x0602 ∧ t.flags = fl 0 0 0 0 0 0 0 := by decide

theorem test_bcc_J16 :
    let t := after (code [0x90, 0x10] State.reset)
    t.pc = 0x0612 ∧ t.flags = fl 0 0 0 0 0 0 0 := by decide

theorem test_bcc_J17 :
    let t := after (code [0x90, 0x10] { State.reset with flags := fl 0 0 0 0 0 0 1 })
    t.pc = 0x0602 ∧ t.flags = fl 0 0 0 0 0 0 1 := by decide

theorem test_bcs_J18 :
    let t := after (code [0xB0, 0x10] { State.reset with flags := fl 0 0 0 0 0 0 1 })
    t.pc = 0x0612 ∧ t.flags = fl 0 0 0 0 0 0 1 := by decide

theorem test_bcs_J19 :
    let t := after (code [0xB0, 0x10] State.reset)
    t.pc = 0x0602 ∧ t.flags = fl 0 0 0 0 0 0 0 := by decide

theorem test_bne_J21 :
    let t := after (code [0xD0, 0x02] { State.reset with pc := 0xFFFE })
    t.pc = 0x0002 ∧ t.flags = fl 0 0 0 0 0 0 0 := by decide

theorem test_jmp_G1 :
    let t := after (code [0x4C, 0x34, 0x12] (poke [(0x1234, 0x99)] State.reset))
    t.pc = 0x1234 ∧ t.flags = fl 0 0 0 0 0 0 0 := by decide

theorem test_jmp_G2 :
    let t := after (code [0x6C, 0x00, 0x03] (poke [(0x0300, 0x78), (0x0301, 0x56)] State.reset))
    t.pc = 0x5678 ∧ t.flags = fl 0 0 0 0 0 0 0 := by decide

theorem test_jsr_G4 :
    let t := after (code [0x20, 0x00, 0x07] State.reset)
    t.sp = 0x01 ∧ t.pc = 0x0700 ∧ t.slot 1 = 0x0603 ∧ t.flags = fl 0 0 0 0 0 0 0 := by decide

theorem test_jsr_G5 :
    let t := after (code [0x20, 0x00, 0x07] (fill [(255, 0x1111)] { State.reset with sp := 0xFF }))
    t.sp = 0xFF ∧ t.pc = 0x0700 ∧ t.slot 255 = 0x0603 ∧ t.flags = fl 0 0 0 0 0 0 0 := by decide

theorem test_rts_G7 :
    let t := after (code [0x60] (fill [(1, 0x0603)] { State.reset with sp := 0x01 }))
    t.sp = 0x00 ∧ t.pc = 0x0603 ∧ t.flags = fl 0 0 0 0 0 0 0 := by decide

theorem test_rts_G8 :
    let t := after (code [0x60] { State.reset with sp := 0x00 })
    t.sp = 0x00 ∧ t.pc = 0x0000 ∧ t.flags = fl 0 0 0 0 0 0 0 := by decide

theorem test_brk_Y2 :
    let t := after (code [0x00] { State.reset with a := 0x01, sp := 0x03, pc := 0x0605, flags := fl 0 0 0 0 0 0 1 })
    t.pc = 0x0605 ∧ t.run = .halted ∧ t.haltCauseCode = 2 ∧ t.haltPc = 0x0605 ∧
      t.flags = fl 0 0 1 0 0 0 1 := by decide

theorem test_nop_Y3 :
    let t := after (code [0xEA] State.reset)
    t.pc = 0x0601 ∧ t.flags = fl 0 0 0 0 0 0 0 := by decide

theorem test_rti_Y4 :
    let t := after (code [0x40] (fill [(1, 0x0603), (2, 0x00FF)]
      { State.reset with sp := 0x02, flags := fl 0 0 0 0 0 0 1 }))
    t.pc = 0x0601 ∧ t.flags = fl 0 0 0 0 0 0 1 := by decide

theorem test_clc_Y5 :
    let t := after (code [0x18] { State.reset with flags := fl 0 0 0 0 0 0 1 })
    t.pc = 0x0601 ∧ t.flags = fl 0 0 0 0 0 0 0 := by decide

theorem test_sec_Y6 :
    let t := after (code [0x38] State.reset)
    t.pc = 0x0601 ∧ t.flags = fl 0 0 0 0 0 0 1 := by decide

theorem test_cli_Y7 :
    let t := after (code [0x58] { State.reset with flags := fl 0 0 0 0 1 0 0 })
    t.pc = 0x0601 ∧ t.flags = fl 0 0 0 0 0 0 0 := by decide

theorem test_sei_Y8 :
    let t := after (code [0x78] State.reset)
    t.pc = 0x0601 ∧ t.flags = fl 0 0 0 0 1 0 0 := by decide

theorem test_clv_Y9 :
    let t := after (code [0xB8] { State.reset with flags := fl 0 1 0 0 0 0 0 })
    t.pc = 0x0601 ∧ t.flags = fl 0 0 0 0 0 0 0 := by decide

theorem test_cld_Y10 :
    let t := after (code [0xD8] { State.reset with flags := fl 0 0 0 1 0 0 0 })
    t.pc = 0x0601 ∧ t.flags = fl 0 0 0 0 0 0 0 := by decide

theorem test_sed_Y11 :
    let t := after (code [0xF8] State.reset)
    t.pc = 0x0601 ∧ t.flags = fl 0 0 0 1 0 0 0 := by decide

theorem test_unknown_Y12 :
    let t := after (code [0x02] { State.reset with a := 0x07 })
    t.pc = 0x0600 ∧ t.run = .halted ∧ t.haltCauseCode = 1 ∧ t.haltPc = 0x0600 ∧ t.haltOpcode = 0x02 ∧
      t.flags = fl 0 0 0 0 0 0 0 := by decide

theorem test_unknown_Y13 :
    let t := after (code [0xFF, 0x12, 0x34] { State.reset with pc := 0x1234 })
    t.pc = 0x1234 ∧ t.run = .halted ∧ t.haltCauseCode = 1 ∧ t.haltPc = 0x1234 ∧ t.haltOpcode = 0xFF ∧
      t.flags = fl 0 0 0 0 0 0 0 := by decide

/-! ### Events, halts and placement -/

/-- The end state of program P1 (S7): halted at the BRK at 0605. -/
def endOfP1 : State :=
  { poke [(0x0200, 0x05)] (code [0xA9, 0x05, 0x8D, 0x00, 0x02, 0x00] State.reset) with
    a := 0x05, pc := 0x0605, flags := fl 0 0 1 0 0 0 0, run := .halted, haltCause := .softwareBreak, haltPc := 0x0605 }

theorem test_reset_memory_canonical : State.reset.mem.wf = true := by decide

theorem test_halted_step_X1 : step endOfP1 = .next endOfP1 := rfl

theorem test_reset_event_X2 :
    let t := resetEvent 0x0600 endOfP1
    t.run = .running ∧ t.a = 0x00 ∧ t.flags = fl 0 0 0 0 0 0 0 ∧ t.haltCauseCode = 0 ∧ t.haltPc = 0x0000 ∧
      t.memRead 0x0200 = 0x05 ∧ t.memRead 0x0604 = 0x02 := by
  decide

theorem test_load_drops_X4 :
    loadProgram [0xA9, 0x01, 0xEA, 0x00] 0xFFFE [] = [(0xFFFE, 0xA9), (0xFFFF, 0x01)] := by decide

theorem test_blank_memory_X6 :
    let t := after State.reset
    t.run = .halted ∧ t.haltCauseCode = 2 ∧ t.haltPc = 0x0600 ∧ t.pc = 0x0600 ∧ t.flags = fl 0 0 1 0 0 0 0 := by
  decide

theorem test_reset_wins_X8 : clock { reset := some 0x0600, step := true } endOfP1 = .next (resetEvent 0x0600 endOfP1) :=
  rfl

theorem test_injection_X9 :
    let t := after (injectAt (some (0xFE, 0xFF)) 0x5C 0x00 (code [0xA5, 0xFE] State.reset))
    t.a = 0x5C ∧ t.pc = 0x0602 := by
  decide

theorem test_withFetchWord_runs :
    (after (State.reset.withFetchWord 16 0x05A9)).a = 0x05 ∧
      (after (State.reset.withFetchWord 24 0x12344C)).pc = 0x1234 ∧
      (after (endOfP1.withFetchWord 8 0xE8)).x = 0x01 := by
  decide

/-! ### Witnesses: for each obligation with hypotheses, data that meets all of them -/

theorem witness_DecodeOfEncodeIsTheInstruction :
    (Instr.bne (-128)).wellFormed = true ∧ encode (.bne (-128)) <+: [0xD0, 0x80, 0xEA] ∧
      (Instr.beq 127).wellFormed = true ∧ encode (.beq 127) <+: [0xF0, 0x7F, 0x00] ∧
      encode (.staAbs 0xFFFF) <+: [0x8D, 0xFF, 0xFF] := by
  decide

theorem witness_DecodedBytesAreTheEncoding :
    decode 0xD0 0x80 0xEA = .instr (.bne (-128)) ∧ decode 0xF0 0x7F 0x00 = .instr (.beq 127) := by decide

theorem witness_UnlistedOpcodesAreUnknown :
    decode 0x02 0x00 0x00 = .unknownOpcode 0x02 ∧ 0x02 ∈ unknownOpcodes ∧ 0xFF ∈ unknownOpcodes ∧
      0xFE ∉ unknownOpcodes := by
  decide

/-- Every operand kind of `OperandBytesFollowTheOpcode`, the opcode at the last Memory address. -/
theorem witness_OperandBytesFollowTheOpcode :
    let s (o : Byte) := poke [(0xFFFF, o), (0x0000, 0x34), (0x0001, 0xF2)] { State.reset with pc := 0xFFFF }
    decodedAtPc (s 0xA9) = .instr (.ldaImm 0x34) ∧ (Instr.ldaImm 0x34).operand = .imm 0x34 ∧
      decodedAtPc (s 0xA5) = .instr (.ldaZp 0x34) ∧ (Instr.ldaZp 0x34).operand = .mem (.zp 0x34) ∧
      decodedAtPc (s 0xB5) = .instr (.ldaZpX 0x34) ∧ (Instr.ldaZpX 0x34).operand = .mem (.zpX 0x34) ∧
      decodedAtPc (s 0xB6) = .instr (.ldxZpY 0x34) ∧ (Instr.ldxZpY 0x34).operand = .mem (.zpY 0x34) ∧
      decodedAtPc (s 0xA1) = .instr (.ldaIndX 0x34) ∧ (Instr.ldaIndX 0x34).operand = .mem (.indX 0x34) ∧
      decodedAtPc (s 0xB1) = .instr (.ldaIndY 0x34) ∧ (Instr.ldaIndY 0x34).operand = .mem (.indY 0x34) ∧
      decodedAtPc (s 0xAD) = .instr (.ldaAbs 0xF234) ∧ (Instr.ldaAbs 0xF234).operand = .mem (.abs 0xF234) ∧
      decodedAtPc (s 0xBD) = .instr (.ldaAbsX 0xF234) ∧ (Instr.ldaAbsX 0xF234).operand = .mem (.absX 0xF234) ∧
      decodedAtPc (s 0xB9) = .instr (.ldaAbsY 0xF234) ∧ (Instr.ldaAbsY 0xF234).operand = .mem (.absY 0xF234) ∧
      decodedAtPc (s 0x6C) = .instr (.jmpInd 0xF234) ∧ (Instr.jmpInd 0xF234).operand = .mem (.ind 0xF234) := by
  decide

theorem witness_BranchOffsetIsTwosComplement :
    decode 0x10 0x7F 0x00 = .instr (.bpl 127) ∧ (Instr.bpl 127).operand = .rel 127 ∧
      decode 0x10 0x80 0x00 = .instr (.bpl (-128)) ∧ (Instr.bpl (-128)).operand = .rel (-128) := by
  decide

theorem witness_StepRunsTheDecodedInstruction :
    let s := code [0xA9, 0x05] State.reset
    s.run = .running ∧ decodedAtPc s = .instr (.ldaImm 0x05) := by
  decide

theorem witness_HaltedStepChangesNothing : endOfP1.run = .halted := rfl

theorem witness_UnknownOpcodeHalts :
    let s := code [0xFF] State.reset
    s.run = .running ∧ s.memRead s.pc ∈ unknownOpcodes := by
  decide

theorem witness_BrkSetsBreakAndHalts :
    State.reset.run = .running ∧ State.reset.memRead State.reset.pc = 0x00#8 := by decide

theorem witness_OnlyBrkHaltsOnceDispatched : Instr.nop ≠ .brk ∧ ∃ t, exec .nop State.reset = .next t :=
  ⟨by decide, _, rfl⟩

/-- One Step of each kind: Running to Running, to Halted both ways, Halted to Halted, and one instruction executed. -/
theorem witness_RunStateTransitions :
    (after (code [0xEA] State.reset)).run = .running ∧
      decodedAtPc (code [0x02] State.reset) = .unknownOpcode 0x02 ∧ (after (code [0x02] State.reset)).run = .halted ∧
      decodedAtPc State.reset = .instr .brk ∧ (after State.reset).run = .halted ∧
      (∃ t, step (code [0xEA] State.reset) = .next t) ∧ step endOfP1 = .next endOfP1 ∧
      ∃ t, exec .brk State.reset = .next t :=
  ⟨by decide, by decide, by decide, by decide, by decide, ⟨_, rfl⟩, rfl, _, rfl⟩

/-- An STA Absolute that wraps past FFFF, and an INC and a ROR in the zero page, each storing just after itself. -/
theorem witness_StoredByteIsTheNextOpcode :
    let s := poke [(0xFFFD, 0x8D), (0xFFFE, 0x00), (0xFFFF, 0x00)] { State.reset with pc := 0xFFFD }
    let u := poke [(0x000E, 0xE6), (0x000F, 0x10), (0x0010, 0xE7)] { State.reset with pc := 0x000E }
    let v := poke [(0x00FD, 0x76), (0x00FE, 0x80)] { State.reset with pc := 0x00FD, x := 0x7F }
    s.run = .running ∧ decodedAtPc s = .instr (.staAbs 0x0000) ∧
      storeAddr (.staAbs 0x0000) s = some (s.pc + BitVec.ofNat 16 (encode (.staAbs 0x0000)).length) ∧
      u.run = .running ∧ decodedAtPc u = .instr (.incZp 0x10) ∧
      storeAddr (.incZp 0x10) u = some (u.pc + BitVec.ofNat 16 (encode (.incZp 0x10)).length) ∧
      v.run = .running ∧ decodedAtPc v = .instr (.rorZpX 0x80) ∧
      storeAddr (.rorZpX 0x80) v = some (v.pc + BitVec.ofNat 16 (encode (.rorZpX 0x80)).length) := by
  decide

/-- `storedByte` by hand calculation: E7 plus 1 is E8; ROR of 03 with Carry set is 81. -/
theorem test_storedByte :
    storedByte (.incZp 0x10) (poke [(0x0010, 0xE7)] State.reset) 0x0010 = 0xE8 ∧
      storedByte (.rorZp 0x10) (poke [(0x0010, 0x03)] { State.reset with flags := fl 0 0 0 0 0 0 1 }) 0x0010 = 0x81 ∧
      storedByte (.styZp 0x10) { State.reset with y := 0x42 } 0x0010 = 0x42 := by
  decide

/-- The two injection addresses the same one, where both bytes are written and the second stays. -/
theorem witness_InjectionWritesTwoZeroPageBytes :
    let t := injectAt (some (0xFF, 0xFF)) 0x5C 0xA7 State.reset
    t.memRead 0x00FF = 0xA7 ∧ t.memRead 0x00FE = 0x00 ∧ t.memRead 0x0100 = 0x00 := by
  decide

/-- The output HALT_CAUSE at each cause. -/
theorem witness_HaltOutputs :
    State.reset.haltCauseCode = 0 ∧ (after (code [0x02] State.reset)).haltCauseCode = 1 ∧
      endOfP1.haltCauseCode = 2 := by
  decide

theorem witness_StepKeepsMemoryCanonical :
    endOfP1.mem.wf = true ∧ (code [0x8D, 0xFF, 0xFF] State.reset).mem.wf = true ∧
      ∃ t, step (code [0x8D, 0xFF, 0xFF] State.reset) = .next t :=
  ⟨by decide, by decide, _, rfl⟩

theorem witness_CanonicalMemoriesAreEqualData :
    ∃ m m' : Memory, m.wf = true ∧ m'.wf = true ∧ m ≠ [] ∧ ∀ a : Word, m.read a.toNat = m'.read a.toNat :=
  ⟨[(0, 0x01), (65535, 0xFF)], [(0, 0x01), (65535, 0xFF)], by decide, by decide, by decide, fun _ => rfl⟩

theorem witness_StepKeepsStackBottom :
    StackBottomIntact State.reset ∧ ∃ t, step (code [0x48] State.reset) = .next t :=
  ⟨rfl, _, rfl⟩

theorem witness_StepKeepsHaltReport :
    HaltReportConsistent State.reset ∧ HaltReportConsistent endOfP1 ∧ step endOfP1 = .next endOfP1 :=
  ⟨⟨rfl, rfl, rfl⟩, ⟨rfl, by decide, .inr ⟨rfl, rfl, rfl⟩⟩, rfl⟩

theorem witness_ReachableStatesAreSafe :
    Reachable (boot 0x0600 0x0600 [0xA9, 0x05]) ∧ ∃ t, Reachable t ∧ t.a = 0x05 :=
  ⟨.boot .., _, .event { reset := none, step := true } (.boot 0x0600 0x0600 [0xA9, 0x05]) rfl, by decide⟩

/-- The first and the last form of every list of operand-reading forms. -/
theorem witness_read_forms (s : State) (v b : Byte) (w : Word) :
    (.ldaImm v, v, 2) ∈ ldaForms s v b w ∧ (.ldaIndY b, rd s (.indY b), 2) ∈ ldaForms s v b w ∧
      (.ldxImm v, v, 2) ∈ ldxForms s v b w ∧ (.ldxAbsY w, rd s (.absY w), 3) ∈ ldxForms s v b w ∧
      (.ldyImm v, v, 2) ∈ ldyForms s v b w ∧ (.ldyAbsX w, rd s (.absX w), 3) ∈ ldyForms s v b w ∧
      (.adcImm v, v, 2) ∈ adcForms s v b w ∧ (.adcIndY b, rd s (.indY b), 2) ∈ adcForms s v b w ∧
      (.sbcImm v, v, 2) ∈ sbcForms s v b w ∧ (.sbcIndY b, rd s (.indY b), 2) ∈ sbcForms s v b w ∧
      (.cmpImm v, v, 2) ∈ cmpForms s v b w ∧ (.cmpIndY b, rd s (.indY b), 2) ∈ cmpForms s v b w ∧
      (.cpxImm v, v, 2) ∈ cpxForms s v b w ∧ (.cpxAbs w, rd s (.abs w), 3) ∈ cpxForms s v b w ∧
      (.cpyImm v, v, 2) ∈ cpyForms s v b w ∧ (.cpyAbs w, rd s (.abs w), 3) ∈ cpyForms s v b w ∧
      (.andImm v, v, 2) ∈ andForms s v b w ∧ (.andIndY b, rd s (.indY b), 2) ∈ andForms s v b w ∧
      (.oraImm v, v, 2) ∈ oraForms s v b w ∧ (.oraIndY b, rd s (.indY b), 2) ∈ oraForms s v b w ∧
      (.eorImm v, v, 2) ∈ eorForms s v b w ∧ (.eorIndY b, rd s (.indY b), 2) ∈ eorForms s v b w ∧
      (.bitZp b, rd s (.zp b), 2) ∈ bitForms s b w ∧ (.bitAbs w, rd s (.abs w), 3) ∈ bitForms s b w := by
  simp [ldaForms, ldxForms, ldyForms, adcForms, sbcForms, cmpForms, cpxForms, cpyForms, andForms, oraForms, eorForms,
    bitForms]

/-- The first and the last form of every list of Memory-writing forms. -/
theorem witness_write_forms (b : Byte) (w : Word) :
    (.staZp b, .zp b, 2) ∈ staForms b w ∧ (.staIndY b, .indY b, 2) ∈ staForms b w ∧
      (.stxZp b, .zp b, 2) ∈ stxForms b w ∧ (.stxAbs w, .abs w, 3) ∈ stxForms b w ∧
      (.styZp b, .zp b, 2) ∈ styForms b w ∧ (.styAbs w, .abs w, 3) ∈ styForms b w ∧
      (.incZp b, .zp b, 2) ∈ incForms b w ∧ (.incAbsX w, .absX w, 3) ∈ incForms b w ∧
      (.decZp b, .zp b, 2) ∈ decForms b w ∧ (.decAbsX w, .absX w, 3) ∈ decForms b w ∧
      (.aslZp b, .zp b, 2) ∈ aslForms b w ∧ (.aslAbsX w, .absX w, 3) ∈ aslForms b w ∧
      (.lsrZp b, .zp b, 2) ∈ lsrForms b w ∧ (.lsrAbsX w, .absX w, 3) ∈ lsrForms b w ∧
      (.rolZp b, .zp b, 2) ∈ rolForms b w ∧ (.rolAbsX w, .absX w, 3) ∈ rolForms b w ∧
      (.rorZp b, .zp b, 2) ∈ rorForms b w ∧ (.rorAbsX w, .absX w, 3) ∈ rorForms b w := by
  simp [staForms, stxForms, styForms, incForms, decForms, aslForms, lsrForms, rolForms, rorForms]

/-- Every list of forms has one entry a row of the opcode table. -/
theorem witness_form_counts (s : State) (v b : Byte) (w : Word) :
    [(ldaForms s v b w).length, (ldxForms s v b w).length, (ldyForms s v b w).length, (adcForms s v b w).length,
      (sbcForms s v b w).length, (cmpForms s v b w).length, (cpxForms s v b w).length, (cpyForms s v b w).length,
      (andForms s v b w).length, (oraForms s v b w).length, (eorForms s v b w).length, (bitForms s b w).length,
      (staForms b w).length, (stxForms b w).length, (styForms b w).length, (incForms b w).length,
      (decForms b w).length, (aslForms b w).length, (lsrForms b w).length, (rolForms b w).length,
      (rorForms b w).length] = [8, 5, 5, 8, 8, 8, 3, 3, 8, 8, 8, 2, 7, 3, 3, 4, 4, 4, 4, 4, 4] :=
  rfl

theorem witness_LoadsSetZNFromTheLoadedByte :
    (Instr.ldaImm 0x00).mnemonic = .lda ∧ (Instr.ldxImm 0x80).mnemonic = .ldx ∧ (Instr.ldyImm 0xFF).mnemonic = .ldy := by
  decide

theorem witness_AccumulatorShiftsByOneBit :
    (Instr.rorAcc, Mnemonic.ror) ∈ [(Instr.aslAcc, Mnemonic.asl), (.lsrAcc, .lsr), (.rolAcc, .rol), (.rorAcc, .ror)] := by
  decide

theorem witness_PushesRaiseSpThenWrite (s : State) :
    (Instr.php, s.flags.pack) ∈ [(Instr.pha, s.a), (.php, s.flags.pack)] := by
  simp

/-- The hypotheses of `PullsReadThenLowerSp` at both ends of the stack, SP = 0 and SP = 255. -/
theorem witness_PullsReadThenLowerSp :
    let s := State.reset
    let u := fill [(0xFF, 0x06C3)] { State.reset with sp := 0xFF }
    (0x00#8).toNat = (s.slot s.sp).toNat % 256 ∧ (0x00#8).toNat = s.sp.toNat - 1 ∧
      (0xC3#8).toNat = (u.slot u.sp).toNat % 256 ∧ (0xFE#8).toNat = u.sp.toNat - 1 := by
  decide

/-- `StatusByteRoundTrip` and `JsrRtsRoundTrip` at the last SP that is restored. -/
theorem witness_round_trips : ({ State.reset with sp := 0xFE } : State).sp.toNat < 255 := by decide

theorem witness_BranchesAddTheOffset (f : Flags) :
    (Instr.bpl 127, !f.n) ∈ branches f 127 ∧ (Instr.beq (-128), f.z) ∈ branches f (-128) := by
  simp [branches]

/-- `FlagsAreWrittenOnlyByTheirInstructions`: INX writes Z and N alone, STA no flag at all. -/
theorem witness_FlagsAreWrittenOnlyByTheirInstructions :
    (∃ t, exec (.staZp 0x10) State.reset = .next t) ∧ (Instr.staZp 0x10).mnemonic ∉ setsC ∧
      (Instr.staZp 0x10).mnemonic ∉ setsZN ∧ (Instr.staZp 0x10).mnemonic ∉ setsV ∧
      (Instr.staZp 0x10).mnemonic ∉ [.cli, .sei, .plp] ∧ (Instr.staZp 0x10).mnemonic ∉ [.cld, .sed, .plp] ∧
      (Instr.staZp 0x10).mnemonic ∉ [.brk, .plp] :=
  ⟨⟨_, rfl⟩, by decide, by decide, by decide, by decide, by decide, by decide⟩

theorem witness_RegistersAreWrittenOnlyByTheirInstructions :
    (∃ t, exec (.aslZp 0x10) State.reset = .next t) ∧
      (Instr.aslZp 0x10).mnemonic ∉ [.lda, .pla, .txa, .tya, .adc, .sbc, .and, .ora, .eor] ∧
      (Instr.aslZp 0x10).mode ≠ .acc ∧ (Instr.aslZp 0x10).mnemonic ∉ [.ldx, .tax, .tsx, .inx, .dex] ∧
      (Instr.aslZp 0x10).mnemonic ∉ [.ldy, .tay, .iny, .dey] ∧
      (Instr.aslZp 0x10).mnemonic ∉ [.txs, .pha, .php, .jsr, .pla, .plp, .rts] :=
  ⟨⟨_, rfl⟩, by decide, by decide, by decide, by decide, by decide⟩

theorem witness_OnlyPushesWriteTheStack :
    (∃ t, exec .pla State.reset = .next t) ∧ Instr.pla.mnemonic ∉ [.pha, .php, .jsr] ∧
      ∃ t, exec .pha State.reset = .next t ∧ (0x00#8) ≠ t.sp :=
  ⟨⟨_, rfl⟩, by decide, _, rfl, by decide⟩

theorem witness_MemoryChangesOnlyAtTheStoreAddress :
    (∃ t, exec (.staZp 0xFF) State.reset = .next t) ∧ storeAddr (.staZp 0xFF) State.reset ≠ some 0x0100 ∧
      (∃ t, exec .aslAcc State.reset = .next t) ∧ storeAddr .aslAcc State.reset ≠ some 0x0000 ∧
      (∃ t, exec .pha State.reset = .next t) ∧ storesToMemory Instr.pha.mnemonic = false :=
  ⟨⟨_, rfl⟩, by decide, ⟨_, rfl⟩, by decide, ⟨_, rfl⟩, by decide⟩

theorem witness_PcAdvancesByTheLength :
    (∃ t, exec (.staAbs 0xFFFF) { State.reset with pc := 0xFFFF } = .next t) ∧
      (Instr.staAbs 0xFFFF).mnemonic ∉ setsPc ∧ (Instr.staAbs 0xFFFF).mode ≠ .rel ∧
      (∃ t, exec .brk State.reset = .next t) ∧ Instr.brk.mnemonic = .brk :=
  ⟨⟨_, rfl⟩, by decide, by decide, ⟨_, rfl⟩, by decide⟩

theorem witness_InterruptDecimalBreakGateNothing :
    (Instr.adcImm 0x01).mnemonic ≠ .php ∧ ∃ t, exec (.adcImm 0x01) State.reset = .next t :=
  ⟨by decide, _, rfl⟩

end Sys2Proof.Tests
end

section
/-! PROOFS of the family `10_state.md`: the run state RUN (R38), and Z and N after a load (R30). -/

namespace Sys2Proof.Machine

open Sys2Proof.Claims

/-! ### Instructions and the halt state -/

/-- BRK alone writes RUN (R38, R222). -/
theorem exec_keeps_run (i : Instr) (s t : State) (hi : i ≠ .brk) (h : exec i s = .next t) : t.run = s.run := by
  cases i with
  | brk => exact absurd rfl hi
  | bpl | bmi | bvc | bvs | bcc | bcs | bne | beq => injection h with h; subst h; exact branch_run ..
  | _ => injection h with h; subst h; rfl

/-- An instruction run while Running halts exactly when it is BRK. -/
theorem exec_run_eq_halted_iff (i : Instr) (s t : State) (hs : s.run = .running) (h : exec i s = .next t) :
    t.run = .halted ↔ i = .brk := by
  by_cases hi : i = .brk
  · subst hi
    injection h with h
    subst h
    exact iff_of_true rfl rfl
  · exact iff_of_false (by simp [exec_keeps_run i s t hi h, hs]) hi

/-- No instruction reads RUN (R38): with another run state the next state is the same but for RUN itself. -/
theorem exec_with_run (i : Instr) (s t : State) (r : RunState) (h : exec i s = .next t) :
    ∃ t', exec i { s with run := r } = .next t' ∧ { t' with run := t.run } = t := by
  cases i with
  | bpl | bmi | bvc | bvs | bcc | bcs | bne | beq =>
    injection h with h; subst h
    exact ⟨_, rfl, by simp only [branch_next]⟩
  | _ => injection h with h; subst h; exact ⟨_, rfl, rfl⟩

/-! ### The Step and RUN -/

/-- The decoder rejects an opcode byte by that byte itself (R84). -/
theorem decode_unknownOpcode_eq {o b1 b2 o' : Byte} (h : decode o b1 b2 = .unknownOpcode o') : o' = o := by
  obtain ⟨mk, -, hd⟩ | ⟨-, hd⟩ := decode_cases o b1 b2
  · cases hd.symm.trans h
  · cases hd.symm.trans h; rfl

/-- A Step from Running halts exactly on an unknown opcode byte and on BRK (R38, R220). -/
theorem step_run_eq_halted_iff (s t : State) (hs : s.run = .running) (h : step s = .next t) :
    t.run = .halted ↔ decodedAtPc s = .unknownOpcode (s.memRead s.pc) ∨ decodedAtPc s = .instr .brk := by
  obtain ⟨hh, -⟩ | ⟨-, i, hd, hstep⟩ | ⟨-, o, hd, hstep⟩ := step_cases s
  · cases hs.symm.trans hh
  · have hd : decodedAtPc s = .instr i := hd
    rw [exec_run_eq_halted_iff i s t hs (hstep.symm.trans h), hd]
    simp
  · have hd : decodedAtPc s = .unknownOpcode o := hd
    cases hstep.symm.trans h
    exact iff_of_true rfl (.inl (decode_unknownOpcode_eq hd ▸ hd))

/-- A Step from Halted changes nothing (R91). -/
theorem step_of_halted (s : State) (hs : s.run = .halted) : step s = .next s := by
  obtain ⟨-, hstep⟩ | ⟨hr, -⟩ | ⟨hr, -⟩ := step_cases s
  · exact hstep
  · cases hs.symm.trans hr
  · cases hs.symm.trans hr

/-- Settles O12: the clause on Steps from Running turns on BRK being the only instruction that writes RUN. -/
theorem runStateTransitions : Obligations.RunStateTransitions := by
  unfold Obligations.RunStateTransitions
  refine ⟨rfl, step_run_eq_halted_iff, fun s t hs h => ?_, fun p s => ⟨resetEvent_run p s, resetEvent_pc p s⟩,
    exec_with_run⟩
  cases (step_of_halted s hs).symm.trans h
  exact hs

/-! ### Loads -/

/-- Every form of LDA is the shared load of A from some source. -/
theorem exec_eq_lda (i : Instr) (s : State) (h : i.mnemonic = .lda) : ∃ src, exec i s = .next (lda src s) := by
  cases i with
  | ldaImm | ldaZp | ldaZpX | ldaAbs | ldaAbsX | ldaAbsY | ldaIndX | ldaIndY => exact ⟨_, rfl⟩
  | _ => nomatch h

/-- Every form of LDX is the shared load of X from some source. -/
theorem exec_eq_ldx (i : Instr) (s : State) (h : i.mnemonic = .ldx) : ∃ src, exec i s = .next (ldx src s) := by
  cases i with
  | ldxImm | ldxZp | ldxZpY | ldxAbs | ldxAbsY => exact ⟨_, rfl⟩
  | _ => nomatch h

/-- Every form of LDY is the shared load of Y from some source. -/
theorem exec_eq_ldy (i : Instr) (s : State) (h : i.mnemonic = .ldy) : ∃ src, exec i s = .next (ldy src s) := by
  cases i with
  | ldyImm | ldyZp | ldyZpX | ldyAbs | ldyAbsX => exact ⟨_, rfl⟩
  | _ => nomatch h

theorem Flags.setZN_z_iff (f : Flags) (v : Byte) : (f.setZN v).z = true ↔ v = 0 := decide_eq_true_iff

theorem Flags.setZN_n_iff (f : Flags) (v : Byte) : (f.setZN v).n = true ↔ 128 ≤ v.toNat := by
  rw [Flags.setZN_n, bit7_eq, decide_eq_true_iff]

theorem Flags.setZN_eq (f : Flags) (v : Byte) : f.setZN v = { f with z := v == 0, n := v.msb } := by
  have hn : v.msb = v[7] := by rw [bit7_eq, BitVec.msb_eq_decide]
  rw [hn]
  rfl

/-- Settles O32: each load passes the byte it loads to SetZN. -/
theorem loadsSetZNFromTheLoadedByte : Obligations.LoadsSetZNFromTheLoadedByte := by
  unfold Obligations.LoadsSetZNFromTheLoadedByte
  refine fun i s => ⟨fun h => ?_, fun h => ?_, fun h => ?_, Flags.setZN_eq⟩
  · obtain ⟨src, hexec⟩ := exec_eq_lda i s h
    exact ⟨_, hexec, Flags.setZN_z_iff .., Flags.setZN_n_iff ..⟩
  · obtain ⟨src, hexec⟩ := exec_eq_ldx i s h
    exact ⟨_, hexec, Flags.setZN_z_iff .., Flags.setZN_n_iff ..⟩
  · obtain ⟨src, hexec⟩ := exec_eq_ldy i s h
    exact ⟨_, hexec, Flags.setZN_z_iff .., Flags.setZN_n_iff ..⟩

end Sys2Proof.Machine
end

section
/-! PROOFS of the family `30_encoding.md`: the operand of a decoded instruction (R74, R75, R78), and the Step while Halted
(R91). -/

namespace Sys2Proof

/-! ### The operand a mode makes of the bytes after the opcode -/

/-- The operand that each mode makes of the two bytes after the opcode (R73 to R75, R78). -/
def Mode.assemble (op1 op2 : Byte) : Mode → Operand
  | .impl => .impl
  | .acc => .acc
  | .imm => .imm op1
  | .zp => .mem (.zp op1)
  | .zpX => .mem (.zpX op1)
  | .zpY => .mem (.zpY op1)
  | .abs => .mem (.abs (wordOf op1 op2))
  | .absX => .mem (.absX (wordOf op1 op2))
  | .absY => .mem (.absY (wordOf op1 op2))
  | .ind => .mem (.ind (wordOf op1 op2))
  | .indX => .mem (.indX op1)
  | .indY => .mem (.indY op1)
  | .rel => .rel (signedOffset op1)

/-! ### The dispatch table -/

/-- A descriptor that `dispatch` finds stands in the table, in the row of the opcode byte asked for (R88). -/
theorem mem_dispatchTable_of_dispatch {o : Byte} {mk : Maker} (h : dispatch o = some mk) :
    (⟨o, mk⟩ : Row) ∈ dispatchTable := by
  obtain ⟨row, hfind, rfl⟩ := Option.map_eq_some_iff.mp h
  obtain rfl : row.opcode = o := by simpa using List.find?_some hfind
  exact List.mem_of_find?_eq_some hfind

/-- Each row of the table makes an instruction whose operand is the one its mode assembles. -/
theorem operand_build_of_mem {row : Row} (h : row ∈ dispatchTable) (op1 op2 : Byte) :
    (row.maker.build op1 op2).operand = (row.maker.build op1 op2).mode.assemble op1 op2 := by
  revert row
  simp only [dispatchTable, rowsLoadStore, rowsTransfer, rowsIncDec, rowsArithmetic, rowsBitwise, rowsShift, rowsStack,
    rowsBranch, rowsJump, rowsSystem, List.forall_mem_append, List.forall_mem_cons, List.not_mem_nil, false_implies,
    implies_true, and_true]
  and_intros <;> rfl

/-- The decoder answers an instruction whose operand is the one its mode assembles from the two bytes after the opcode
(R71). -/
theorem operand_of_decode {o op1 op2 : Byte} {i : Instr} (h : decode o op1 op2 = .instr i) :
    i.operand = i.mode.assemble op1 op2 := by
  obtain ⟨mk, hmk, hd⟩ | ⟨-, hd⟩ := Machine.decode_cases o op1 op2
  · cases hd.symm.trans h
    exact operand_build_of_mem (mem_dispatchTable_of_dispatch hmk) op1 op2
  · cases hd.symm.trans h

/-- `operand_of_decode` for an operand of a known form, whose mode then computes. -/
theorem eq_assemble_of_decode {o op1 op2 : Byte} {i : Instr} {opd : Operand} (h : decode o op1 op2 = .instr i)
    (hopd : i.operand = opd) : opd = opd.mode.assemble op1 op2 := by
  subst hopd
  exact operand_of_decode h

end Sys2Proof

namespace Sys2Proof.Machine

/-- Settles O5: every zero-page mode assembles the first operand byte, every 16-bit mode the word with that byte low. -/
theorem operandBytesFollowTheOpcode : Obligations.OperandBytesFollowTheOpcode := by
  unfold Obligations.OperandBytesFollowTheOpcode
  refine fun s i hd => ⟨fun v hv => ?_, fun b hb => ?_, fun w hw => ?_, fun _ => rfl, zext16_toNat⟩
  · exact Operand.imm.inj (eq_assemble_of_decode hd hv)
  · obtain hb | hb | hb | hb | hb := hb <;> cases eq_assemble_of_decode hd hb <;> rfl
  · obtain hw | hw | hw | hw := hw <;> cases eq_assemble_of_decode hd hw <;> exact wordOf_toNat ..

/-- Settles O6: the relative mode assembles `signedOffset` of the operand byte, which is R78's rule. -/
theorem branchOffsetIsTwosComplement : Obligations.BranchOffsetIsTwosComplement := by
  unfold Obligations.BranchOffsetIsTwosComplement
  exact fun o op1 b2 i off hd hoff => Operand.rel.inj (eq_assemble_of_decode hd hoff)

/-- Settles O8: the Halted case of what a Step can do. -/
theorem haltedStepChangesNothing : Obligations.HaltedStepChangesNothing := by
  unfold Obligations.HaltedStepChangesNothing
  exact step_of_halted

end Sys2Proof.Machine
end

section
/-! PROOFS of the family `40_addressing.md`: the effective addresses of the zero-page modes (R104, R105) and of the
absolute indexed modes (R108, R109). -/

namespace Sys2Proof.Machine

/-! ### Index arithmetic on addresses -/

/-- A zero-extended byte addresses the zero page. -/
theorem zext16_toNat_lt (v : Byte) : (zext16 v).toNat < 256 := by
  rw [zext16_toNat]
  exact v.isLt

/-- An index added before the extension wraps within the zero page (R105, R106). -/
theorem zext16_add_toNat (b x : Byte) : (zext16 (b + x)).toNat = (b.toNat + x.toNat) % 256 := by
  rw [zext16_toNat, BitVec.toNat_add]

/-- An index added after the extension carries into the high byte and wraps at 65536 (R108, R109, R112). -/
theorem add_zext16_toNat (w : Word) (x : Byte) : (w + zext16 x).toNat = (w.toNat + x.toNat) % 65536 := by
  rw [BitVec.toNat_add, zext16_toNat]

/-! ### The modes -/

/-- Settles O27: both modes extend a byte to an address, and Zero Page,X adds the index before it extends. -/
theorem zeroPageAddressesStayInZeroPage : Obligations.ZeroPageAddressesStayInZeroPage := by
  unfold Obligations.ZeroPageAddressesStayInZeroPage
  exact fun s b => ⟨zext16_toNat b, zext16_toNat_lt b, zext16_add_toNat b s.x, zext16_toNat_lt (b + s.x)⟩

/-- Settles O28: both modes add the index to the word after the extension, so the carry reaches the high byte. -/
theorem absoluteIndexedWrapsAt65536 : Obligations.AbsoluteIndexedWrapsAt65536 := by
  unfold Obligations.AbsoluteIndexedWrapsAt65536
  exact fun s w => ⟨add_zext16_toNat w s.x, add_zext16_toNat w s.y⟩

end Sys2Proof.Machine
end

section
/-! PROOFS of the family `other`, part 1: the decoder and the encoder are inverse to each other (R71 to R81), and the
decoder rejects exactly the opcode bytes of R84. -/

namespace Sys2Proof

/-! ### Operands and their bytes -/

/-- A branch's offset is all that well-formedness looks at (R78). -/
theorem wellFormed_iff (i : Instr) : i.wellFormed = true ↔ ∀ off, i.operand = .rel off → offsetInRange off = true := by
  cases i with
  | bpl off | bmi off | bvc off | bvs off | bcc off | bcs off | bne off | beq off =>
    exact ⟨fun h _ hoff => Operand.rel.inj hoff ▸ h, fun h => h off rfl⟩
  | _ => exact iff_of_true rfl nofun

/-- The operand a mode assembles has its bytes at the beginning of the bytes it was assembled from. -/
theorem Mode.bytes_assemble (op1 op2 : Byte) (m : Mode) : (m.assemble op1 op2).bytes <+: [op1, op2] := by
  cases m <;> simp [Mode.assemble, Operand.bytes, Addr.bytes]

/-- An operand whose bytes begin the two bytes after the opcode is what its mode assembles from them; a branch offset
has to fit its byte. -/
theorem Operand.eq_assemble_of_bytes {opd : Operand} {op1 op2 : Byte} (hbytes : opd.bytes <+: [op1, op2])
    (hoff : ∀ off, opd = .rel off → offsetInRange off = true) : opd = opd.mode.assemble op1 op2 := by
  cases opd with
  | impl | acc => rfl
  | imm v =>
    obtain ⟨rfl, -⟩ : v = op1 ∧ _ := List.cons_prefix_cons.mp hbytes
    rfl
  | mem ad =>
    cases ad with
    | zp b | zpX b | zpY b | indX b | indY b =>
      obtain ⟨rfl, -⟩ : b = op1 ∧ _ := List.cons_prefix_cons.mp hbytes
      rfl
    | abs w | absX w | absY w | ind w =>
      obtain ⟨rfl, hhi⟩ : lowByte w = op1 ∧ _ := List.cons_prefix_cons.mp hbytes
      obtain ⟨rfl, -⟩ : highByte w = op2 ∧ _ := List.cons_prefix_cons.mp hhi
      simp [Operand.mode, Addr.mode, Mode.assemble]
  | rel off =>
    obtain ⟨rfl, -⟩ : offsetByte off = op1 ∧ _ := List.cons_prefix_cons.mp hbytes
    exact congrArg Operand.rel (signedOffset_offsetByte off (hoff off rfl)).symm

/-! ### The dispatch table and the opcode bytes -/

/-- Each row of the table makes an instruction with that row's opcode byte (R80). -/
theorem opcode_build_of_mem {row : Row} (h : row ∈ dispatchTable) (op1 op2 : Byte) :
    (row.maker.build op1 op2).opcode = row.opcode := by
  revert row
  simp only [dispatchTable, rowsLoadStore, rowsTransfer, rowsIncDec, rowsArithmetic, rowsBitwise, rowsShift, rowsStack,
    rowsBranch, rowsJump, rowsSystem, List.forall_mem_append, List.forall_mem_cons, List.not_mem_nil, false_implies,
    implies_true, and_true]
  and_intros <;> rfl

theorem opcode_of_decode {o op1 op2 : Byte} {i : Instr} (h : decode o op1 op2 = .instr i) : i.opcode = o := by
  obtain ⟨mk, hmk, hd⟩ | ⟨-, hd⟩ := Machine.decode_cases o op1 op2
  · cases hd.symm.trans h
    exact opcode_build_of_mem (mem_dispatchTable_of_dispatch hmk) op1 op2
  · cases hd.symm.trans h

/-- The table has a row for every instruction: an instruction with the operand its mode assembles from two bytes is what
the decoder makes of its opcode byte and those two. -/
theorem decode_opcode {i : Instr} {op1 op2 : Byte} (h : i.operand = i.mode.assemble op1 op2) :
    decode i.opcode op1 op2 = .instr i := by
  cases i with | _ => cases h; rfl

/-- The decoder rejects an opcode byte exactly when the table has no row for it (R84). -/
theorem decode_eq_unknownOpcode_iff (o op1 op2 : Byte) :
    decode o op1 op2 = .unknownOpcode o ↔ dispatch o = none := by
  obtain ⟨mk, hmk, hd⟩ | ⟨hnone, hd⟩ := Machine.decode_cases o op1 op2
  · simp [hd, hmk]
  · simp [hd, hnone]

/-- The 105 bytes of R84 are the ones the table leaves out, by evaluating the table at all 256 bytes. -/
theorem dispatch_eq_none_iff (o : Byte) : dispatch o = none ↔ o ∈ Claims.unknownOpcodes := by
  have hall : ∀ o : Byte, (dispatch o).isNone = decide (o ∈ Claims.unknownOpcodes) := by decide +kernel
  rw [← Option.isNone_iff_eq_none, hall, decide_eq_true_iff]

end Sys2Proof

namespace Sys2Proof.Machine

/-- Settles O1: the bytes make the operand the one its mode assembles, and the table has the instruction's row. -/
theorem decodeOfEncodeIsTheInstruction : Obligations.DecodeOfEncodeIsTheInstruction := by
  unfold Obligations.DecodeOfEncodeIsTheInstruction
  intro i o b1 b2 hwf hpre
  obtain ⟨rfl, hbytes⟩ : i.opcode = o ∧ _ := List.cons_prefix_cons.mp hpre
  exact decode_opcode (Operand.eq_assemble_of_bytes hbytes ((wellFormed_iff i).mp hwf))

/-- Settles O2: the row gives the opcode byte, and the operand is assembled from bytes that are its own. -/
theorem decodedBytesAreTheEncoding : Obligations.DecodedBytesAreTheEncoding := by
  unfold Obligations.DecodedBytesAreTheEncoding
  intro i o b1 b2 hd
  refine ⟨(wellFormed_iff i).mpr fun off hoff => ?_, List.cons_prefix_cons.mpr ⟨opcode_of_decode hd, ?_⟩⟩
  · cases eq_assemble_of_decode hd hoff
    exact signedOffset_inRange b1
  · rw [operand_of_decode hd]
    exact Mode.bytes_assemble b1 b2 i.mode

/-- Settles O3: rejection is a missing row, and the missing rows are those of R84's list. -/
theorem unlistedOpcodesAreUnknown : Obligations.UnlistedOpcodesAreUnknown := by
  unfold Obligations.UnlistedOpcodesAreUnknown
  exact fun o b1 b2 => ⟨(decode_eq_unknownOpcode_iff o b1 b2).trans (dispatch_eq_none_iff o),
    fun _ => decode_unknownOpcode_eq⟩

/-- Settles O4: the three instructions have the operands their modes assemble, so the decoder finds their rows. -/
theorem specWordsDecode : Obligations.SpecWordsDecode := by
  unfold Obligations.SpecWordsDecode
  exact fun b1 b2 => ⟨decode_opcode (i := .ldaImm 0x05) rfl, decode_opcode (i := .staAbs 0x0200) rfl,
    decode_opcode (i := .brk) rfl, rfl, rfl, rfl⟩

end Sys2Proof.Machine
end

section
/-! PROOFS of the family `other`, part 2: the flag computations as arithmetic, that is `SetZN` (R30), the adder (R146),
the compares (R143 to R145), the shifters (R160 to R163), the status byte (R32 to R35), the branch target (R180). -/

namespace Sys2Proof.Machine

open Sys2Proof.Claims

/-! ### SetZN and the compares -/

theorem setZN_eq_zn (f : Flags) (v : Byte) : f.setZN v = zn f v := by
  rw [zn, Flags.setZN, bit7_eq]
  rfl

/-- The flags of a compare by unsigned arithmetic: N is bit 7 of the difference modulo 256. -/
theorem afterCompare_eq (f : Flags) (reg m : Byte) :
    f.afterCompare reg m = { f with
      c := decide (m.toNat ≤ reg.toNat), z := decide (reg.toNat = m.toNat),
      n := decide (128 ≤ (reg.toNat + 256 - m.toNat) % 256) } := by
  have hm := m.isLt
  have hsub : (reg - m).toNat = (reg.toNat + 256 - m.toNat) % 256 := by
    rw [BitVec.toNat_sub]
    omega
  rw [Flags.afterCompare, bit7_eq, hsub]
  simp only [BitVec.toNat_inj]

theorem afterBit_eq (f : Flags) (a m : Byte) :
    f.afterBit a m = { f with
      z := decide (a &&& m = 0), n := decide (128 ≤ m.toNat), v := decide (64 ≤ m.toNat % 128) } := by
  rw [Flags.afterBit, bit7_eq, bit6_eq]
  rfl

/-! ### The adder -/

theorem toInt_eq_ite (v : Byte) : v.toInt = if 128 ≤ v.toNat then (v.toNat : Int) - 256 else v.toNat := by
  have := v.isLt
  rw [BitVec.toInt_eq_toNat_cond]
  split <;> split <;> omega

theorem addCore_fst_toNat (a m : Byte) (c : Bool) : (addCore a m c).1.toNat = (a.toNat + m.toNat + c.toNat) % 256 := by
  simp [addCore, bit_eq_toNat]

theorem addCore_carry_iff (a m : Byte) (c : Bool) :
    (addCore a m c).2.1 = true ↔ 256 ≤ a.toNat + m.toNat + c.toNat := by
  simp [addCore, bit_eq_toNat]

/-- A byte masked to its bit 7 is not 0 exactly when that bit is 1. -/
theorem and_80_ne_zero_iff (v : Byte) : v &&& 0x80#8 ≠ 0x00#8 ↔ v[7] = true := by
  revert v
  decide +kernel

/-- The overflow formula of R146: bit 7 of the result differs from bit 7 of both summands. -/
theorem addCore_overflow (a m : Byte) (c : Bool) :
    (addCore a m c).2.2 = true ↔ a[7] ≠ (addCore a m c).1[7] ∧ m[7] ≠ (addCore a m c).1[7] := by
  change decide ((a ^^^ (addCore a m c).1) &&& (m ^^^ (addCore a m c).1) &&& 0x80#8 ≠ 0x00#8) = true ↔ _
  rw [decide_eq_true_iff, and_80_ne_zero_iff]
  simp

/-- The overflow formula says that the signed sum leaves the range of a signed byte. -/
theorem addCore_overflow_iff (a m : Byte) (c : Bool) :
    (addCore a m c).2.2 = true ↔ a.toInt + m.toInt + c.toNat < -128 ∨ 127 < a.toInt + m.toInt + c.toNat := by
  have ha := a.isLt
  have hm := m.isLt
  have hc : c.toNat ≤ 1 := Bool.toNat_le c
  rw [addCore_overflow, toInt_eq_ite, toInt_eq_ite, bit7_eq, bit7_eq, bit7_eq, addCore_fst_toNat]
  simp only [ne_eq, decide_eq_decide]
  split <;> split <;> omega

/-- Settles O37: the sum and the carry are arithmetic by definition, the overflow formula by its case analysis. -/
theorem adderIsExact : Obligations.AdderIsExact := by
  unfold Obligations.AdderIsExact
  exact fun a m c => ⟨addCore_fst_toNat a m c, addCore_carry_iff a m c, addCore_overflow_iff a m c⟩

/-- Complementing M, as SBC does, as arithmetic. -/
theorem xor_FF_toNat (m : Byte) : (m ^^^ 0xFF#8).toNat = 255 - m.toNat := by
  revert m
  decide +kernel

theorem xor_FF_toInt (m : Byte) : (m ^^^ 0xFF#8).toInt = -1 - m.toInt := by
  revert m
  decide +kernel

/-! ### The shifters -/

theorem aslCore_eq (v : Byte) (c : Bool) :
    (aslCore v).1.toNat = (shifted .asl v.toNat c).1 ∧ (aslCore v).2 = (shifted .asl v.toNat c).2 := by
  revert v c
  decide +kernel

theorem lsrCore_eq (v : Byte) (c : Bool) :
    (lsrCore v).1.toNat = (shifted .lsr v.toNat c).1 ∧ (lsrCore v).2 = (shifted .lsr v.toNat c).2 := by
  revert v c
  decide +kernel

theorem rolCore_eq (v : Byte) (c : Bool) :
    (rolCore v c).1.toNat = (shifted .rol v.toNat c).1 ∧ (rolCore v c).2 = (shifted .rol v.toNat c).2 := by
  revert v c
  decide +kernel

theorem rorCore_eq (v : Byte) (c : Bool) :
    (rorCore v c).1.toNat = (shifted .ror v.toNat c).1 ∧ (rorCore v c).2 = (shifted .ror v.toNat c).2 := by
  revert v c
  decide +kernel

/-! ### The status byte -/

theorem pack_toNat (f : Flags) :
    f.pack.toNat = f.n.toNat * 128 + f.v.toNat * 64 + 32 + f.b.toNat * 16 + f.d.toNat * 8 + f.i.toNat * 4 +
      f.z.toNat * 2 + f.c.toNat := by
  have hn := Bool.toNat_le f.n
  have hv := Bool.toNat_le f.v
  have hb := Bool.toNat_le f.b
  have hd := Bool.toNat_le f.d
  have hi := Bool.toNat_le f.i
  have hz := Bool.toNat_le f.z
  have hc := Bool.toNat_le f.c
  simp only [Flags.pack, bit_eq_toNat, statusBit5, Bool.toNat_true, BitVec.toNat_ofNat]
  omega

theorem unpack_pack (f : Flags) : Flags.unpack f.pack = f := by
  obtain ⟨c, z, i, d, b, v, n⟩ := f
  revert c z i d b v n
  decide +kernel

theorem pack_unpack (p : Byte) : (Flags.unpack p).pack = p ||| 0x20 := by
  revert p
  decide +kernel

/-- Settles O49: the weights of R33, and the two round trips. -/
theorem codecPacksAndUnpacks : Obligations.CodecPacksAndUnpacks := by
  unfold Obligations.CodecPacksAndUnpacks
  exact ⟨fun f => ⟨pack_toNat f, unpack_pack f⟩, pack_unpack⟩

/-! ### PC and the stack pointer -/

theorem branchTarget_toNat (pc : Word) (off : Int) :
    ((branchTarget pc off).toNat : Int) = ((pc.toNat : Int) + 2 + off) % 65536 := by
  rw [branchTarget, BitVec.toNat_ofInt]
  omega

theorem popSp_pushSp {sp : Byte} (h : sp.toNat < 255) : popSp (pushSp sp) = sp := by
  apply BitVec.eq_of_toNat_eq
  rw [popSp_toNat, pushSp_toNat]
  omega

end Sys2Proof.Machine
end

section
/-! PROOFS of the family `other`, part 3: what an instruction can do, said once by mnemonic, and the rules over all
instructions that follow from it (R21 to R28, R36, R51, R59). -/

namespace Sys2Proof.Machine

open Sys2Proof.Claims

/-! ### What an instruction can do -/

/-- The next states from `s` of the instructions with a given mnemonic and addressing mode, by the shared operations. -/
inductive Performs (s : State) : Mnemonic → State → Mode → Prop
  | lda (src : Source) : Performs s .lda (lda src s) src.mode
  | ldx (src : Source) : Performs s .ldx (ldx src s) src.mode
  | ldy (src : Source) : Performs s .ldy (ldy src s) src.mode
  | sta (ad : Addr) : Performs s .sta (sta ad s) ad.mode
  | stx (ad : Addr) : Performs s .stx (stx ad s) ad.mode
  | sty (ad : Addr) : Performs s .sty (sty ad s) ad.mode
  | tax : Performs s .tax (transferToX s.a s) .impl
  | txa : Performs s .txa (transferToA s.x s) .impl
  | tay : Performs s .tay (transferToY s.a s) .impl
  | tya : Performs s .tya (transferToA s.y s) .impl
  | inx : Performs s .inx (transferToX (s.x + 1) s) .impl
  | iny : Performs s .iny (transferToY (s.y + 1) s) .impl
  | dex : Performs s .dex (transferToX (s.x - 1) s) .impl
  | dey : Performs s .dey (transferToY (s.y - 1) s) .impl
  | inc (ad : Addr) : Performs s .inc (inc ad s) ad.mode
  | dec (ad : Addr) : Performs s .dec (dec ad s) ad.mode
  | adc (src : Source) : Performs s .adc (adc src s) src.mode
  | sbc (src : Source) : Performs s .sbc (sbc src s) src.mode
  | cmp (src : Source) : Performs s .cmp (cmp src s) src.mode
  | cpx (src : Source) : Performs s .cpx (cpx src s) src.mode
  | cpy (src : Source) : Performs s .cpy (cpy src s) src.mode
  | and (src : Source) : Performs s .and (andA src s) src.mode
  | ora (src : Source) : Performs s .ora (oraA src s) src.mode
  | eor (src : Source) : Performs s .eor (eorA src s) src.mode
  | bit (src : Source) : Performs s .bit (bitTest src s) src.mode
  | asl (tg : Target) : Performs s .asl (asl tg s) tg.mode
  | lsr (tg : Target) : Performs s .lsr (lsr tg s) tg.mode
  | rol (tg : Target) : Performs s .rol (rol tg s) tg.mode
  | ror (tg : Target) : Performs s .ror (ror tg s) tg.mode
  | pha : Performs s .pha (pushByte s.a s) .impl
  | pla : Performs s .pla (pullA s) .impl
  | php : Performs s .php (pushByte s.flags.pack s) .impl
  | plp : Performs s .plp (pullFlags s) .impl
  | txs : Performs s .txs (transferToSp s.x s) .impl
  | tsx : Performs s .tsx (transferToX s.sp s) .impl
  | jmp (ad : Addr) : Performs s .jmp (jump ad s) ad.mode
  | jsr (ad : Addr) : Performs s .jsr (callSubroutine ad s) ad.mode
  | rts : Performs s .rts (returnFromSubroutine s) .impl
  | brk : Performs s .brk (softwareBreak s) .impl
  | nop : Performs s .nop (noOperation s) .impl
  | rti : Performs s .rti (noOperation s) .impl
  | clc : Performs s .clc (setFlag { s.flags with c := false } s) .impl
  | sec : Performs s .sec (setFlag { s.flags with c := true } s) .impl
  | cli : Performs s .cli (setFlag { s.flags with i := false } s) .impl
  | sei : Performs s .sei (setFlag { s.flags with i := true } s) .impl
  | clv : Performs s .clv (setFlag { s.flags with v := false } s) .impl
  | cld : Performs s .cld (setFlag { s.flags with d := false } s) .impl
  | sed : Performs s .sed (setFlag { s.flags with d := true } s) .impl
  | branch {m : Mnemonic} (hm : m ∈ [.bpl, .bmi, .bvc, .bvs, .bcc, .bcs, .bne, .beq]) (pc : Word) :
      Performs s m (s.setPc pc) .rel

theorem branch_performs (m : Mnemonic) (hm : m ∈ [.bpl, .bmi, .bvc, .bvs, .bcc, .bcs, .bne, .beq]) (cond : Bool)
    (off : Int) (s : State) : Performs s m (branch cond off s) .rel := by
  rw [branch_next]
  exact .branch hm _

/-- Every arm of `exec` is one of these operations. -/
theorem exec_performs (i : Instr) (s t : State) (h : exec i s = .next t) : Performs s i.mnemonic t i.mode := by
  cases i with
  | bpl | bmi | bvc | bvs | bcc | bcs | bne | beq =>
    injection h with h; subst h; exact branch_performs _ (by simp [Instr.mnemonic]) ..
  | _ => injection h with h; subst h; constructor

/-! ### What a shift leaves, whatever its target -/

@[simp] theorem shiftTarget_x (res : Byte × Bool) (tg : Target) (s : State) : (shiftTarget res tg s).x = s.x := by
  cases tg <;> rfl
@[simp] theorem shiftTarget_y (res : Byte × Bool) (tg : Target) (s : State) : (shiftTarget res tg s).y = s.y := by
  cases tg <;> rfl
@[simp] theorem shiftTarget_sp (res : Byte × Bool) (tg : Target) (s : State) : (shiftTarget res tg s).sp = s.sp := by
  cases tg <;> rfl
@[simp] theorem shiftTarget_stack (res : Byte × Bool) (tg : Target) (s : State) :
    (shiftTarget res tg s).stack = s.stack := by
  cases tg <;> rfl
@[simp] theorem shiftTarget_pc (res : Byte × Bool) (tg : Target) (s : State) :
    (shiftTarget res tg s).pc = s.pc + BitVec.ofNat 16 tg.mode.length := by
  cases tg <;> rfl

/-! ### Which operations keep a flag, a register, the stack, the halt report -/

section Frames

variable {s t : State} {m : Mnemonic} {md : Mode}

theorem Performs.keeps_c (h : Performs s m t md) (hm : m ∉ setsC) : t.flags.c = s.flags.c := by
  cases h with
  | adc | sbc | cmp | cpx | cpy | asl | lsr | rol | ror | clc | sec | plp => exact absurd (by decide) hm
  | _ => rfl

theorem Performs.keeps_zn (h : Performs s m t md) (hm : m ∉ setsZN) :
    t.flags.z = s.flags.z ∧ t.flags.n = s.flags.n := by
  cases h with
  | sta | stx | sty | pha | php | txs | branch | jmp | jsr | rts | brk | nop | rti | clc | sec | cli | sei | clv | cld |
    sed => exact ⟨rfl, rfl⟩
  | _ => exact absurd (by decide) hm

theorem Performs.keeps_v (h : Performs s m t md) (hm : m ∉ setsV) : t.flags.v = s.flags.v := by
  cases h with
  | adc | sbc | bit | clv | plp => exact absurd (by decide) hm
  | _ => rfl

theorem Performs.keeps_i (h : Performs s m t md) (hm : m ∉ [.cli, .sei, .plp]) : t.flags.i = s.flags.i := by
  cases h with
  | cli | sei | plp => exact absurd (by decide) hm
  | _ => rfl

theorem Performs.keeps_d (h : Performs s m t md) (hm : m ∉ [.cld, .sed, .plp]) : t.flags.d = s.flags.d := by
  cases h with
  | cld | sed | plp => exact absurd (by decide) hm
  | _ => rfl

theorem Performs.keeps_b (h : Performs s m t md) (hm : m ∉ [.brk, .plp]) : t.flags.b = s.flags.b := by
  cases h with
  | brk | plp => exact absurd (by decide) hm
  | _ => rfl

theorem Performs.keeps_a (h : Performs s m t md) (hm : m ∉ [.lda, .pla, .txa, .tya, .adc, .sbc, .and, .ora, .eor])
    (hmd : md ≠ .acc) : t.a = s.a := by
  cases h with
  | lda | pla | txa | tya | adc | sbc | and | ora | eor => exact absurd (by decide) hm
  | asl tg | lsr tg | rol tg | ror tg =>
    cases tg with
    | acc => exact absurd rfl hmd
    | mem => rfl
  | _ => rfl

theorem Performs.keeps_x (h : Performs s m t md) (hm : m ∉ [.ldx, .tax, .tsx, .inx, .dex]) : t.x = s.x := by
  cases h with
  | ldx | tax | tsx | inx | dex => exact absurd (by decide) hm
  | asl tg | lsr tg | rol tg | ror tg => exact shiftTarget_x ..
  | _ => rfl

theorem Performs.keeps_y (h : Performs s m t md) (hm : m ∉ [.ldy, .tay, .iny, .dey]) : t.y = s.y := by
  cases h with
  | ldy | tay | iny | dey => exact absurd (by decide) hm
  | asl tg | lsr tg | rol tg | ror tg => exact shiftTarget_y ..
  | _ => rfl

theorem Performs.keeps_sp (h : Performs s m t md) (hm : m ∉ [.txs, .pha, .php, .jsr, .pla, .plp, .rts]) :
    t.sp = s.sp := by
  cases h with
  | txs | pha | php | jsr | pla | plp | rts => exact absurd (by decide) hm
  | asl tg | lsr tg | rol tg | ror tg => exact shiftTarget_sp ..
  | _ => rfl

theorem Performs.pc_eq_add_length (h : Performs s m t md) (hm : m ∉ setsPc) (hmd : md ≠ .rel) :
    t.pc = s.pc + BitVec.ofNat 16 md.length := by
  cases h with
  | jmp | jsr | rts | brk => exact absurd (by decide) hm
  | branch => exact absurd rfl hmd
  | asl tg | lsr tg | rol tg | ror tg => exact shiftTarget_pc ..
  | _ => rfl

theorem Performs.keeps_stack (h : Performs s m t md) (hm : m ∉ [.pha, .php, .jsr]) : t.stack = s.stack := by
  cases h with
  | pha | php | jsr => exact absurd (by decide) hm
  | asl tg | lsr tg | rol tg | ror tg => exact shiftTarget_stack ..
  | _ => rfl

theorem Performs.keeps_report (h : Performs s m t md) (hm : m ≠ .brk) :
    t.haltCause = s.haltCause ∧ t.haltPc = s.haltPc ∧ t.haltOpcode = s.haltOpcode := by
  cases h with
  | brk => exact absurd rfl hm
  | asl tg | lsr tg | rol tg | ror tg => cases tg <;> exact ⟨rfl, rfl, rfl⟩
  | _ => exact ⟨rfl, rfl, rfl⟩

end Frames

/-! ### Flags and registers (the table of R28, R21 to R24) -/

/-- Settles O55: flag by flag, from the operations that write it. -/
theorem flagsAreWrittenOnlyByTheirInstructions : Obligations.FlagsAreWrittenOnlyByTheirInstructions := by
  unfold Obligations.FlagsAreWrittenOnlyByTheirInstructions
  intro i s t h
  have hp := exec_performs i s t h
  exact ⟨hp.keeps_c, fun hm => (hp.keeps_zn hm).1, fun hm => (hp.keeps_zn hm).2, hp.keeps_v, hp.keeps_i, hp.keeps_d,
    hp.keeps_b⟩

/-- Settles O56: register by register, from the operations that write it. -/
theorem registersAreWrittenOnlyByTheirInstructions : Obligations.RegistersAreWrittenOnlyByTheirInstructions := by
  unfold Obligations.RegistersAreWrittenOnlyByTheirInstructions
  intro i s t h
  have hp := exec_performs i s t h
  exact ⟨hp.keeps_a, hp.keeps_x, hp.keeps_y, hp.keeps_sp⟩

/-! ### PC (R26) -/

theorem length_operand_bytes (opd : Operand) : opd.bytes.length = opd.mode.operandBytes := by
  cases opd with
  | mem ad => cases ad <;> rfl
  | _ => rfl

/-- The encoding is `LEN` bytes long (R70, R73). -/
theorem length_encode (i : Instr) : (encode i).length = i.mode.length := by
  rw [encode, List.length_cons, length_operand_bytes, Nat.add_comm]
  rfl

/-- An instruction that does not set PC advances it by the length of its encoding (R26, R90). -/
theorem exec_pc {i : Instr} {s t : State} (h : exec i s = .next t) (hm : i.mnemonic ∉ setsPc) (hmd : i.mode ≠ .rel) :
    t.pc = s.pc + BitVec.ofNat 16 (encode i).length := by
  rw [length_encode]
  exact (exec_performs i s t h).pc_eq_add_length hm hmd

theorem eq_brk_of_mnemonic {i : Instr} (h : i.mnemonic = .brk) : i = .brk := by
  cases i with
  | brk => rfl
  | _ => nomatch h

/-- Settles O59: by the default advance, and by what BRK does. -/
theorem pcAdvancesByTheLength : Obligations.PcAdvancesByTheLength := by
  unfold Obligations.PcAdvancesByTheLength
  refine fun i s t h => ⟨fun hm hmd => ?_, fun hm => ?_⟩
  · rw [exec_pc h hm hmd, BitVec.toNat_add, BitVec.toNat_ofNat, Nat.add_mod_mod]
  · obtain rfl := eq_brk_of_mnemonic hm
    injection h with h
    exact h ▸ rfl

/-! ### The stack (R36) -/

/-- A slot keeps its value unless a push has raised SP to it. -/
theorem exec_slot_cases {i : Instr} {s t : State} (h : exec i s = .next t) (j : Byte) :
    t.slot j = s.slot j ∨ (t.sp = pushSp s.sp ∧ j = pushSp s.sp) := by
  obtain hst | ⟨v, hsp, hst⟩ := exec_stack_cases i s t h
  · exact .inl (by simp only [State.slot, hst])
  · by_cases hj : j = pushSp s.sp
    · exact .inr ⟨hsp, hj⟩
    · left
      calc t.slot j = (s.setSlot (pushSp s.sp) v).slot j := by simp only [State.slot, hst]
        _ = s.slot j := by rw [State.slot_setSlot, if_neg hj]

/-- Settles O57: a push writes the slot its new SP names; nothing else writes a slot. -/
theorem onlyPushesWriteTheStack : Obligations.OnlyPushesWriteTheStack := by
  unfold Obligations.OnlyPushesWriteTheStack
  refine fun i s t h => ⟨fun hm => ?_, fun j hj => ?_⟩
  · exact (exec_performs i s t h).keeps_stack hm
  · obtain hslot | ⟨hsp, hjsp⟩ := exec_slot_cases h j
    · exact hslot
    · exact absurd (hjsp.trans hsp.symm) hj

/-! ### Memory (R51, R53) -/

/-- Memory after an instruction: the byte it stores is at its store address, if it stores at all. -/
def memAfter (i : Instr) (s : State) : Memory :=
  match storeAddr i s with
  | some ad => s.mem.write ad.toNat (storedByte i s ad)
  | none => s.mem

theorem eq_ofNat_of_toNat {v : Byte} {n : Nat} (h : v.toNat = n) : v = BitVec.ofNat 8 n := by
  rw [← h, BitVec.ofNat_toNat, BitVec.setWidth_eq]

theorem exec_mem {i : Instr} {s t : State} (h : exec i s = .next t) : t.mem = memAfter i s := by
  cases i with
  | bpl | bmi | bvc | bvs | bcc | bcs | bne | beq => injection h with h; subst h; exact branch_mem ..
  | aslZp | aslZpX | aslAbs | aslAbsX =>
    injection h with h; subst h
    exact congrArg (s.mem.write _) (eq_ofNat_of_toNat (aslCore_eq _ s.flags.c).1)
  | lsrZp | lsrZpX | lsrAbs | lsrAbsX =>
    injection h with h; subst h
    exact congrArg (s.mem.write _) (eq_ofNat_of_toNat (lsrCore_eq _ s.flags.c).1)
  | rolZp | rolZpX | rolAbs | rolAbsX =>
    injection h with h; subst h
    exact congrArg (s.mem.write _) (eq_ofNat_of_toNat (rolCore_eq _ s.flags.c).1)
  | rorZp | rorZpX | rorAbs | rorAbsX =>
    injection h with h; subst h
    exact congrArg (s.mem.write _) (eq_ofNat_of_toNat (rorCore_eq _ s.flags.c).1)
  | _ => injection h with h; subst h; rfl

/-- What an address reads after an instruction. -/
theorem exec_memRead {i : Instr} {s t : State} (h : exec i s = .next t) (a : Word) :
    t.memRead a = if storeAddr i s = some a then storedByte i s a else s.memRead a := by
  rw [State.memRead, exec_mem h, memAfter]
  cases storeAddr i s with
  | none => rfl
  | some ad =>
    simp only [Memory.read_write, BitVec.toNat_inj, Option.some.injEq, eq_comm (a := a)]
    split
    · next hs => rw [hs]
    · rfl

theorem storeAddr_eq_none {i : Instr} (hm : storesToMemory i.mnemonic = false) (s : State) : storeAddr i s = none := by
  unfold storeAddr
  cases i.operand with
  | mem ad => exact if_neg (by simp [hm])
  | _ => rfl

/-- Settles O58: reads change at the store address alone, and an instruction without one leaves Memory itself. -/
theorem memoryChangesOnlyAtTheStoreAddress : Obligations.MemoryChangesOnlyAtTheStoreAddress := by
  unfold Obligations.MemoryChangesOnlyAtTheStoreAddress
  refine fun i s t h => ⟨fun a ha => ?_, fun hm => ?_⟩
  · rw [exec_memRead h, if_neg ha]
  · rw [exec_mem h, memAfter, storeAddr_eq_none hm]

/-! ### The halt report and the flags that gate nothing -/

/-- Settles O13: no arm of `exec` ends in a fault or a refusal. -/
theorem everyInstructionCompletes : Obligations.EveryInstructionCompletes := by
  unfold Obligations.EveryInstructionCompletes
  intro i s
  cases i with | _ => exact ⟨_, rfl⟩

/-- BRK alone writes the halt report (R41, R42, R222). -/
theorem exec_keeps_report {i : Instr} {s t : State} (h : exec i s = .next t) (hi : i ≠ .brk) :
    t.haltCause = s.haltCause ∧ t.haltPc = s.haltPc ∧ t.haltOpcode = s.haltOpcode :=
  (exec_performs i s t h).keeps_report (mt eq_brk_of_mnemonic hi)

/-- Settles O60: PHP alone reads I, D or B, so every other instruction answers both states alike but for
those flags. -/
theorem interruptDecimalBreakGateNothing : Obligations.InterruptDecimalBreakGateNothing := by
  unfold Obligations.InterruptDecimalBreakGateNothing
  intro ins s t i d b hphp h
  cases ins with
  | php => exact absurd rfl hphp
  | bpl | bmi | bvc | bvs | bcc | bcs | bne | beq =>
    injection h with h; subst h
    exact ⟨_, rfl, by simp only [branch_next]⟩
  | _ => injection h with h; subst h; exact ⟨_, rfl, rfl⟩

end Sys2Proof.Machine
end

section
/-! PROOFS of the family `other`, part 4: the result of each instruction from every state, by the shared operation it is
(R110 to R112, R120 to R210). -/

namespace Sys2Proof.Machine

open Sys2Proof.Claims

/-! ### The forms of an instruction and its shared operation -/

/-- The form `f` is the shared operation `op` on a source that has the form's operand value and length. -/
def ReadsAs (op : Source → State → State) (s : State) (f : ReadForm) : Prop :=
  ∃ src : Source, exec f.1 s = .next (op src s) ∧ src.value s = f.2.1 ∧ src.mode.length = f.2.2

/-- The form `f` is the shared operation `op` on the form's Memory operand, and has the length of its mode. -/
def WritesAs (op : Addr → State → State) (s : State) (f : WriteForm) : Prop :=
  exec f.1 s = .next (op f.2.1 s) ∧ f.2.1.mode.length = f.2.2

section Forms

variable {s : State} {v b : Byte} {w : Word} {f : ReadForm} {g : WriteForm}

theorem readsAs_lda (hf : f ∈ ldaForms s v b w) : ReadsAs lda s f := by fin_cases hf <;> exact ⟨_, rfl, rfl, rfl⟩
theorem readsAs_ldx (hf : f ∈ ldxForms s v b w) : ReadsAs ldx s f := by fin_cases hf <;> exact ⟨_, rfl, rfl, rfl⟩
theorem readsAs_ldy (hf : f ∈ ldyForms s v b w) : ReadsAs ldy s f := by fin_cases hf <;> exact ⟨_, rfl, rfl, rfl⟩
theorem readsAs_adc (hf : f ∈ adcForms s v b w) : ReadsAs adc s f := by fin_cases hf <;> exact ⟨_, rfl, rfl, rfl⟩
theorem readsAs_sbc (hf : f ∈ sbcForms s v b w) : ReadsAs sbc s f := by fin_cases hf <;> exact ⟨_, rfl, rfl, rfl⟩
theorem readsAs_cmp (hf : f ∈ cmpForms s v b w) : ReadsAs cmp s f := by fin_cases hf <;> exact ⟨_, rfl, rfl, rfl⟩
theorem readsAs_cpx (hf : f ∈ cpxForms s v b w) : ReadsAs cpx s f := by fin_cases hf <;> exact ⟨_, rfl, rfl, rfl⟩
theorem readsAs_cpy (hf : f ∈ cpyForms s v b w) : ReadsAs cpy s f := by fin_cases hf <;> exact ⟨_, rfl, rfl, rfl⟩
theorem readsAs_and (hf : f ∈ andForms s v b w) : ReadsAs andA s f := by fin_cases hf <;> exact ⟨_, rfl, rfl, rfl⟩
theorem readsAs_ora (hf : f ∈ oraForms s v b w) : ReadsAs oraA s f := by fin_cases hf <;> exact ⟨_, rfl, rfl, rfl⟩
theorem readsAs_eor (hf : f ∈ eorForms s v b w) : ReadsAs eorA s f := by fin_cases hf <;> exact ⟨_, rfl, rfl, rfl⟩
theorem readsAs_bit (hf : f ∈ bitForms s b w) : ReadsAs bitTest s f := by fin_cases hf <;> exact ⟨_, rfl, rfl, rfl⟩

theorem writesAs_sta (hg : g ∈ staForms b w) : WritesAs sta s g := by fin_cases hg <;> exact ⟨rfl, rfl⟩
theorem writesAs_stx (hg : g ∈ stxForms b w) : WritesAs stx s g := by fin_cases hg <;> exact ⟨rfl, rfl⟩
theorem writesAs_sty (hg : g ∈ styForms b w) : WritesAs sty s g := by fin_cases hg <;> exact ⟨rfl, rfl⟩
theorem writesAs_inc (hg : g ∈ incForms b w) : WritesAs inc s g := by fin_cases hg <;> exact ⟨rfl, rfl⟩
theorem writesAs_dec (hg : g ∈ decForms b w) : WritesAs dec s g := by fin_cases hg <;> exact ⟨rfl, rfl⟩
theorem writesAs_asl (hg : g ∈ aslForms b w) : WritesAs (fun ad => asl (.mem ad)) s g := by
  fin_cases hg <;> exact ⟨rfl, rfl⟩
theorem writesAs_lsr (hg : g ∈ lsrForms b w) : WritesAs (fun ad => lsr (.mem ad)) s g := by
  fin_cases hg <;> exact ⟨rfl, rfl⟩
theorem writesAs_rol (hg : g ∈ rolForms b w) : WritesAs (fun ad => rol (.mem ad)) s g := by
  fin_cases hg <;> exact ⟨rfl, rfl⟩
theorem writesAs_ror (hg : g ∈ rorForms b w) : WritesAs (fun ad => ror (.mem ad)) s g := by
  fin_cases hg <;> exact ⟨rfl, rfl⟩

end Forms

/-! ### Loads and transfers (R120 to R122, R130 to R137, R177) -/

/-- Settles O30: every form is the shared load of A. -/
theorem ldaLoadsAndSetsZN : Obligations.LdaLoadsAndSetsZN := by
  unfold Obligations.LdaLoadsAndSetsZN
  intro s v b w f hf
  obtain ⟨src, hexec, hval, hlen⟩ := readsAs_lda hf
  rw [hexec, lda_next, hval, hlen, setZN_eq_zn]

/-- Settles O31: every form is the shared load of its register. -/
theorem ldxLdyLoadAndSetZN : Obligations.LdxLdyLoadAndSetZN := by
  unfold Obligations.LdxLdyLoadAndSetZN
  refine fun s v b w => ⟨fun f hf => ?_, fun f hf => ?_⟩
  · obtain ⟨src, hexec, hval, hlen⟩ := readsAs_ldx hf
    rw [hexec, ldx_next, hval, hlen, setZN_eq_zn]
  · obtain ⟨src, hexec, hval, hlen⟩ := readsAs_ldy hf
    rw [hexec, ldy_next, hval, hlen, setZN_eq_zn]

theorem transferToA_eq (v : Byte) (s : State) :
    transferToA v s = { s with a := v, flags := zn s.flags v, pc := s.pc + 1 } := by
  rw [transferToA_next, setZN_eq_zn]
  rfl

theorem transferToX_eq (v : Byte) (s : State) :
    transferToX v s = { s with x := v, flags := zn s.flags v, pc := s.pc + 1 } := by
  rw [transferToX_next, setZN_eq_zn]
  rfl

theorem transferToY_eq (v : Byte) (s : State) :
    transferToY v s = { s with y := v, flags := zn s.flags v, pc := s.pc + 1 } := by
  rw [transferToY_next, setZN_eq_zn]
  rfl

/-- Settles O34: the shared transfer to each destination register. -/
theorem transfersCopyAndSetZN : Obligations.TransfersCopyAndSetZN := by
  unfold Obligations.TransfersCopyAndSetZN
  exact fun s => ⟨congrArg Host.Outcome.next (transferToX_eq s.a s), congrArg Host.Outcome.next (transferToA_eq s.x s),
    congrArg Host.Outcome.next (transferToY_eq s.a s), congrArg Host.Outcome.next (transferToA_eq s.y s)⟩

/-- One less modulo 256 is 255 more. -/
theorem sub_one_toNat (v : Byte) : (v - 1).toNat = (v.toNat + 255) % 256 := by
  rw [BitVec.toNat_sub, Nat.add_comm]
  rfl

/-- Settles O35: transfers of the register's own value plus or minus 1. -/
theorem registerIncDecWrap : Obligations.RegisterIncDecWrap := by
  unfold Obligations.RegisterIncDecWrap
  exact fun s => ⟨⟨_, BitVec.toNat_add .., congrArg Host.Outcome.next (transferToX_eq (s.x + 1) s)⟩,
    ⟨_, BitVec.toNat_add .., congrArg Host.Outcome.next (transferToY_eq (s.y + 1) s)⟩,
    ⟨_, sub_one_toNat s.x, congrArg Host.Outcome.next (transferToX_eq (s.x - 1) s)⟩,
    ⟨_, sub_one_toNat s.y, congrArg Host.Outcome.next (transferToY_eq (s.y - 1) s)⟩⟩

/-- Settles O47: TXS writes SP and no flag, TSX is a transfer to X. -/
theorem stackPointerTransfers : Obligations.StackPointerTransfers := by
  unfold Obligations.StackPointerTransfers
  exact fun s => ⟨congrArg Host.Outcome.next (transferToSp_next s.x s),
    congrArg Host.Outcome.next (transferToX_eq s.sp s)⟩

/-! ### Stores and the instructions that read, modify and write (R123 to R125, R138, R139, R160 to R163) -/

/-- What every form that writes one Memory byte has in common: the byte at EA, the flags, and the frame. -/
theorem WritesAs.result {op : Addr → State → State} {s : State} {g : WriteForm} (h : WritesAs op s g) (r : Byte)
    (f : Flags) (hop : op g.2.1 s = { s with mem := s.mem.write (ea s g.2.1).toNat r, flags := f,
                                             pc := s.pc + BitVec.ofNat 16 g.2.1.mode.length }) :
    ∃ t, exec g.1 s = .next t ∧ (∀ a : Word, t.memRead a = if a = ea s g.2.1 then r else s.memRead a) ∧
      { t with mem := s.mem } = { s with flags := f, pc := s.pc + BitVec.ofNat 16 g.2.2 } := by
  obtain ⟨hexec, hlen⟩ := h
  rw [hop] at hexec
  exact ⟨_, hexec, fun a => State.memRead_memWrite s (ea s g.2.1) a r, by rw [← hlen]⟩

/-- Settles O33: every form writes one byte, its register, and keeps the flags. -/
theorem storesWriteTheRegisterAtEA : Obligations.StoresWriteTheRegisterAtEA := by
  unfold Obligations.StoresWriteTheRegisterAtEA
  simp only [List.forall_mem_append, List.forall_mem_map]
  exact fun s b w => ⟨⟨fun g hg => (writesAs_sta hg).result s.a s.flags (store_next ..),
    fun g hg => (writesAs_stx hg).result s.x s.flags (store_next ..)⟩,
    fun g hg => (writesAs_sty hg).result s.y s.flags (store_next ..)⟩

theorem modify_eq (r : Byte) (ad : Addr) (s : State) :
    modify r ad s = { s with mem := s.mem.write (ea s ad).toNat r, flags := zn s.flags r,
                             pc := s.pc + BitVec.ofNat 16 ad.mode.length } := by
  rw [modify_next, setZN_eq_zn]

/-- Settles O36: every form writes one byte, the byte it read plus or minus 1. -/
theorem memoryIncDecWrap : Obligations.MemoryIncDecWrap := by
  unfold Obligations.MemoryIncDecWrap
  simp only [List.forall_mem_append, List.forall_mem_map]
  refine fun s b w => ⟨fun g hg => ?_, fun g hg => ?_⟩
  · obtain ⟨t, hexec, hread, hframe⟩ := (writesAs_inc hg).result _ _ (modify_eq ..)
    exact ⟨t, _, hexec, BitVec.toNat_add .., hread, hframe⟩
  · obtain ⟨t, hexec, hread, hframe⟩ := (writesAs_dec hg).result _ _ (modify_eq ..)
    exact ⟨t, _, hexec, sub_one_toNat _, hread, hframe⟩

theorem afterShift_eq (f : Flags) (res : Byte × Bool) : f.afterShift res = { zn f res.1 with c := res.2 } := by
  rw [Flags.afterShift, setZN_eq_zn]

/-- A shift of a Memory byte whose shifter `res` computes `shifted m` does what R160 to R163 say. -/
theorem WritesAs.shift_result {op : Addr → State → State} {s : State} {g : WriteForm} {res : Byte × Bool}
    {m : Mnemonic} (h : WritesAs op s g) (hop : op g.2.1 s = shiftTarget res (.mem g.2.1) s)
    (hres : res.1.toNat = (shifted m (rd s g.2.1).toNat s.flags.c).1 ∧
      res.2 = (shifted m (rd s g.2.1).toNat s.flags.c).2) :
    ∃ (t : State) (r : Byte), exec g.1 s = .next t ∧ r.toNat = (shifted m (rd s g.2.1).toNat s.flags.c).1 ∧
      (∀ a : Word, t.memRead a = if a = ea s g.2.1 then r else s.memRead a) ∧
      { t with mem := s.mem } = { s with
        flags := { zn s.flags r with c := (shifted m (rd s g.2.1).toNat s.flags.c).2 }
        pc := s.pc + BitVec.ofNat 16 g.2.2 } := by
  obtain ⟨hbyte, hcarry⟩ := hres
  obtain ⟨t, hexec, hread, hframe⟩ := h.result res.1 (s.flags.afterShift res) hop
  rw [afterShift_eq, hcarry] at hframe
  exact ⟨t, res.1, hexec, hbyte, hread, hframe⟩

/-- Settles O44: each shifter computes `shifted` of its mnemonic. -/
theorem memoryShiftsByOneBit : Obligations.MemoryShiftsByOneBit := by
  unfold Obligations.MemoryShiftsByOneBit
  simp only [List.forall_mem_append, List.forall_mem_map]
  exact fun s b w => ⟨⟨⟨fun g hg => (writesAs_asl hg).shift_result rfl (aslCore_eq ..),
    fun g hg => (writesAs_lsr hg).shift_result rfl (lsrCore_eq ..)⟩,
    fun g hg => (writesAs_rol hg).shift_result rfl (rolCore_eq ..)⟩,
    fun g hg => (writesAs_ror hg).shift_result rfl (rorCore_eq ..)⟩

/-- A shift of A whose shifter `res` computes `shifted m` does what R160 to R163 say. -/
theorem shiftTarget_acc_result {s : State} {res : Byte × Bool} {m : Mnemonic}
    (hres : res.1.toNat = (shifted m s.a.toNat s.flags.c).1 ∧ res.2 = (shifted m s.a.toNat s.flags.c).2) :
    ∃ r : Byte, r.toNat = (shifted m s.a.toNat s.flags.c).1 ∧
      shiftTarget res .acc s = { s with
        a := r, flags := { zn s.flags r with c := (shifted m s.a.toNat s.flags.c).2 }, pc := s.pc + 1 } := by
  obtain ⟨hbyte, hcarry⟩ := hres
  refine ⟨res.1, hbyte, ?_⟩
  rw [shiftTarget_acc_next, afterShift_eq, hcarry]
  rfl

/-- Settles O43: each shifter computes `shifted` of its mnemonic. -/
theorem accumulatorShiftsByOneBit : Obligations.AccumulatorShiftsByOneBit := by
  unfold Obligations.AccumulatorShiftsByOneBit
  intro s f hf
  have hshift : ∃ res : Byte × Bool, exec f.1 s = .next (shiftTarget res .acc s) ∧
      res.1.toNat = (shifted f.2 s.a.toNat s.flags.c).1 ∧ res.2 = (shifted f.2 s.a.toNat s.flags.c).2 := by
    fin_cases hf
    · exact ⟨_, rfl, aslCore_eq ..⟩
    · exact ⟨_, rfl, lsrCore_eq ..⟩
    · exact ⟨_, rfl, rolCore_eq ..⟩
    · exact ⟨_, rfl, rorCore_eq ..⟩
  obtain ⟨res, hexec, hres⟩ := hshift
  obtain ⟨r, hr, hnext⟩ := shiftTarget_acc_result hres
  exact ⟨r, hr, hexec.trans (congrArg _ hnext)⟩

/-! ### Arithmetic, compares, logic (R140 to R153) -/

/-- Settles O38: the adder on A, M and Carry, whose three answers are exact. -/
theorem adcAddsWithCarry : Obligations.AdcAddsWithCarry := by
  unfold Obligations.AdcAddsWithCarry
  intro s v b w f hf
  obtain ⟨src, hexec, hval, hlen⟩ := readsAs_adc hf
  rw [← hval, ← hlen]
  exact ⟨_, hexec, addCore_fst_toNat .., addCore_carry_iff .., addCore_overflow_iff ..,
    Flags.setZN_z_iff s.flags _, Flags.setZN_n_iff s.flags _, rfl⟩

/-- The adder on the complement of M is the subtraction of M and the inverted carry (R141). -/
theorem addCore_complement (a m : Byte) (c : Bool) :
    ((addCore a (m ^^^ 0xFF#8) c).1.toNat : Int) = ((a.toNat : Int) - m.toNat - (1 - c.toNat)) % 256 ∧
      ((addCore a (m ^^^ 0xFF#8) c).2.1 = true ↔ 0 ≤ (a.toNat : Int) - m.toNat - (1 - c.toNat)) ∧
      ((addCore a (m ^^^ 0xFF#8) c).2.2 = true ↔
        a.toInt - m.toInt - (1 - c.toNat) < -128 ∨ 127 < a.toInt - m.toInt - (1 - c.toNat)) := by
  have hm := m.isLt
  rw [addCore_fst_toNat, addCore_carry_iff, addCore_overflow_iff, xor_FF_toNat, xor_FF_toInt]
  refine ⟨?_, ?_, ?_⟩ <;> omega

/-- Settles O39: the adder on A, the complement of M, and Carry. -/
theorem sbcSubtractsWithBorrow : Obligations.SbcSubtractsWithBorrow := by
  unfold Obligations.SbcSubtractsWithBorrow
  intro s v b w f hf
  obtain ⟨src, hexec, hval, hlen⟩ := readsAs_sbc hf
  rw [← hval, ← hlen]
  obtain ⟨hsum, hcarry, hoverflow⟩ := addCore_complement s.a (src.value s) s.flags.c
  exact ⟨_, hexec, hsum, hcarry, hoverflow, Flags.setZN_z_iff s.flags _, Flags.setZN_n_iff s.flags _, rfl⟩

/-- A form that is a compare of the register value `reg` sets C, Z and N by unsigned arithmetic and nothing else. -/
theorem ReadsAs.compare_result {s : State} {f : ReadForm} {reg : Byte} (h : ReadsAs (compare reg) s f) :
    exec f.1 s = .next { s with
      flags := { s.flags with
        c := decide (f.2.1.toNat ≤ reg.toNat), z := decide (reg.toNat = f.2.1.toNat),
        n := decide (128 ≤ (reg.toNat + 256 - f.2.1.toNat) % 256) }
      pc := s.pc + BitVec.ofNat 16 f.2.2 } := by
  obtain ⟨src, hexec, hval, hlen⟩ := h
  rw [hexec, compare_next, hval, hlen, afterCompare_eq]

/-- Settles O40: each mnemonic is the shared compare of its register. -/
theorem comparesSetFlagsOnly : Obligations.ComparesSetFlagsOnly := by
  unfold Obligations.ComparesSetFlagsOnly
  simp only [List.forall_mem_append, List.forall_mem_map]
  exact fun s v b w => ⟨⟨fun f hf => (readsAs_cmp hf).compare_result, fun f hf => (readsAs_cpx hf).compare_result⟩,
    fun f hf => (readsAs_cpy hf).compare_result⟩

/-- A form that combines A with its operand value by `comb` loads the combination and sets Z and N. -/
theorem ReadsAs.combine_result {op : Source → State → State} {comb : Byte → Byte → Byte} {s : State} {f : ReadForm}
    (h : ReadsAs op s f) (hop : ∀ src, op src s = combine (comb s.a (src.value s)) src.mode s) :
    exec f.1 s = .next { s with
      a := comb s.a f.2.1, flags := zn s.flags (comb s.a f.2.1), pc := s.pc + BitVec.ofNat 16 f.2.2 } := by
  obtain ⟨src, hexec, hval, hlen⟩ := h
  rw [hexec, hop, combine_next, hval, hlen, setZN_eq_zn]

/-- Settles O41: each mnemonic is the shared combination by its bitwise operation. -/
theorem logicCombinesWithA : Obligations.LogicCombinesWithA := by
  unfold Obligations.LogicCombinesWithA
  exact fun s v b w => ⟨fun f hf => (readsAs_and hf).combine_result (comb := (· &&& ·)) fun _ => rfl,
    fun f hf => (readsAs_ora hf).combine_result (comb := (· ||| ·)) fun _ => rfl,
    fun f hf => (readsAs_eor hf).combine_result (comb := (· ^^^ ·)) fun _ => rfl⟩

/-- Settles O42: the shared bit test. -/
theorem bitTestsWithoutStoring : Obligations.BitTestsWithoutStoring := by
  unfold Obligations.BitTestsWithoutStoring
  intro s b w f hf
  obtain ⟨src, hexec, hval, hlen⟩ := readsAs_bit hf
  rw [hexec, bitTest_next, hval, hlen, afterBit_eq]

/-! ### The stack (R170 to R175) -/

/-- What a push leaves: SP raised to at most 255, the value in the slot SP then names, every other slot as before. -/
theorem push16_result (s : State) (v : Word) :
    (s.push16 v).sp.toNat = min (s.sp.toNat + 1) 255 ∧ (s.push16 v).slot (s.push16 v).sp = v ∧
      ∀ j : Byte, j ≠ (s.push16 v).sp → (s.push16 v).slot j = s.slot j :=
  ⟨pushSp_toNat s.sp, (State.slot_push16 ..).trans (if_pos rfl),
    fun _ hj => (State.slot_push16 ..).trans (if_neg hj)⟩

/-- Settles O45: both push a byte, widened to a slot. -/
theorem pushesRaiseSpThenWrite : Obligations.PushesRaiseSpThenWrite := by
  unfold Obligations.PushesRaiseSpThenWrite
  intro s f hf
  have hexec : exec f.1 s = .next (pushByte f.2 s) := by fin_cases hf <;> rfl
  obtain ⟨hsp, htop, hrest⟩ := push16_result s (zext16 f.2)
  exact ⟨_, hexec, hsp, (congrArg BitVec.toNat htop).trans (zext16_toNat f.2), hrest, rfl⟩

/-- Settles O46: both read the low byte of the slot SP names, then lower SP. -/
theorem pullsReadThenLowerSp : Obligations.PullsReadThenLowerSp := by
  unfold Obligations.PullsReadThenLowerSp
  intro s m sp' hm hsp
  obtain rfl : m = lowByte s.popValue := BitVec.eq_of_toNat_eq (hm.trans (lowByte_toNat _).symm)
  obtain rfl : sp' = popSp s.sp := BitVec.eq_of_toNat_eq (hsp.trans (popSp_toNat _).symm)
  refine ⟨congrArg Host.Outcome.next ?_, congrArg Host.Outcome.next (pullFlags_next s)⟩
  rw [pullA_next, setZN_eq_zn]
  rfl

/-- Settles O48: the slot PHP wrote is the one PLP reads, and Unpack inverts Pack. -/
theorem statusByteRoundTrip : Obligations.StatusByteRoundTrip := by
  unfold Obligations.StatusByteRoundTrip
  intro s g
  obtain ⟨-, htop, -⟩ := push16_result s (zext16 s.flags.pack)
  refine ⟨_, _, rfl, rfl, ?_, popSp_pushSp⟩
  calc Flags.unpack (lowByte ((s.push16 (zext16 s.flags.pack)).slot (s.push16 (zext16 s.flags.pack)).sp))
      = Flags.unpack s.flags.pack := by rw [htop, lowByte_zext16]
    _ = s.flags := unpack_pack s.flags

/-! ### Branches and jumps (R180 to R193) -/

/-- Settles O50: every branch is the shared branch on its condition. -/
theorem branchesAddTheOffset : Obligations.BranchesAddTheOffset := by
  unfold Obligations.BranchesAddTheOffset
  intro s off f hf
  have hexec : exec f.1 s = .next (branch f.2 off s) := by fin_cases hf <;> rfl
  refine ⟨_, hexec, ?_, by rw [branch_next]⟩
  rw [branch_next]
  cases f.2 with
  | true => exact branchTarget_toNat s.pc off
  | false =>
    change ((s.pc + 2#16).toNat : Int) = (s.pc.toNat + 2 + 0) % 65536
    rw [BitVec.toNat_add, BitVec.toNat_ofNat]
    omega

theorem returnAddress_toNat (pc : Word) : (returnAddress pc).toNat = (pc.toNat + 3) % 65536 := BitVec.toNat_add ..

/-- Settles O51: by what each jump does, the push of JSR and the pointer of JMP Indirect. -/
theorem jumpsSetPc : Obligations.JumpsSetPc := by
  unfold Obligations.JumpsSetPc
  intro s w
  obtain ⟨hsp, htop, hrest⟩ := push16_result s (returnAddress s.pc)
  exact ⟨rfl, ⟨_, rfl, rfl, wordOf_toNat ..⟩,
    ⟨_, rfl, hsp, (congrArg BitVec.toNat htop).trans (returnAddress_toNat s.pc), hrest, rfl⟩,
    _, rfl, popSp_toNat s.sp, rfl⟩

/-- Settles O52: the slot JSR wrote is the one RTS reads. -/
theorem jsrRtsRoundTrip : Obligations.JsrRtsRoundTrip := by
  unfold Obligations.JsrRtsRoundTrip
  intro s w
  obtain ⟨-, htop, -⟩ := push16_result s (returnAddress s.pc)
  exact ⟨_, _, rfl, rfl, rfl, (congrArg BitVec.toNat htop).trans (returnAddress_toNat s.pc), popSp_pushSp⟩

/-! ### System and flag instructions (R200 to R210) -/

/-- Settles O53: the default advance of one byte. -/
theorem nopAndRtiOnlyAdvance : Obligations.NopAndRtiOnlyAdvance := by
  unfold Obligations.NopAndRtiOnlyAdvance
  exact fun s => ⟨congrArg Host.Outcome.next (noOperation_next s), congrArg Host.Outcome.next (noOperation_next s)⟩

/-- Settles O54: each writes the flags with one of them set or cleared. -/
theorem flagInstructionsWriteOneFlag : Obligations.FlagInstructionsWriteOneFlag := by
  unfold Obligations.FlagInstructionsWriteOneFlag
  intro s
  have hset (f : Flags) : Host.Outcome.next (φ := Fault) (ρ := Refusal) (setFlag f s) =
      .next { s with flags := f, pc := s.pc + 1 } := congrArg Host.Outcome.next (setFlag_next f s)
  exact ⟨hset _, hset _, hset _, hset _, hset _, hset _, hset _⟩

/-! ### The pointer modes (R106, R107, R110 to R112) -/

/-- A little-endian pointer in the zero page, the address of its high byte wrapping there (R56). -/
theorem memRead16zp_toNat (s : State) (p : Byte) :
    (s.memRead16zp p).toNat = (s.mem.read ((p.toNat + 1) % 256)).toNat * 256 + (s.mem.read p.toNat).toNat := by
  rw [State.memRead16zp, wordOf_toNat, State.memRead, State.memRead, zext16_add_toNat, zext16_toNat]
  rfl

/-- Settles O29: each pointer mode by the pointer it reads. -/
theorem pointerModesReadLittleEndianPointers : Obligations.PointerModesReadLittleEndianPointers := by
  unfold Obligations.PointerModesReadLittleEndianPointers
  refine fun s b w => ⟨?_, ?_, ?_, zext16_add_toNat b s.y, rfl⟩
  · rw [ea, State.memRead16, wordOf_toNat, State.memRead, State.memRead, BitVec.toNat_add]
    rfl
  · rw [ea, memRead16zp_toNat, BitVec.toNat_add, Nat.mod_add_mod]
  · rw [ea, add_zext16_toNat, memRead16zp_toNat]

end Sys2Proof.Machine
end

section
/-! PROOFS of the family `other`, part 5: the Step (R90 to R92, R220 to R226), the invariants it keeps, the canonical
Memory, RESET, power-on, and what the host does between Steps (R40 to R45, R60 to R65, R240 to R243). -/

namespace Sys2Proof.Machine

open Sys2Proof.Claims

/-! ### The Step -/

theorem step_of_instr {s : State} {i : Instr} (hs : s.run = .running) (hd : decodedAtPc s = .instr i) :
    step s = exec i s := by
  obtain ⟨hh, -⟩ | ⟨-, j, hj, hstep⟩ | ⟨-, o, ho, -⟩ := step_cases s
  · cases hs.symm.trans hh
  · cases hd.symm.trans hj
    exact hstep
  · cases hd.symm.trans ho

theorem step_of_unknown {s : State} (hs : s.run = .running) (hnone : dispatch (s.memRead s.pc) = none) :
    step s = .next (raiseHalt .unknownOpcode (s.memRead s.pc) s) := by
  have hd : decodedAtPc s = .unknownOpcode (s.memRead s.pc) := (decode_eq_unknownOpcode_iff ..).mpr hnone
  obtain ⟨hh, -⟩ | ⟨-, j, hj, -⟩ | ⟨-, o, ho, hstep⟩ := step_cases s
  · cases hs.symm.trans hh
  · cases hd.symm.trans hj
  · cases hd.symm.trans ho
    exact hstep

/-- What a Step has done when it answers `t`: nothing while Halted, the decoded instruction, or a halt on an opcode byte
without a descriptor. -/
theorem step_next_cases {s t : State} (h : step s = .next t) :
    t = s ∨ (s.run = .running ∧ ∃ i, decodedAtPc s = .instr i ∧ exec i s = .next t) ∨
      (dispatch (s.memRead s.pc) = none ∧ t = raiseHalt .unknownOpcode (s.memRead s.pc) s) := by
  obtain ⟨-, hstep⟩ | ⟨hs, i, hd, hstep⟩ | ⟨-, o, ho, hstep⟩ := step_cases s
  · cases hstep.symm.trans h
    exact .inl rfl
  · exact .inr (.inl ⟨hs, i, hd, hstep.symm.trans h⟩)
  · cases hstep.symm.trans h
    obtain rfl := decode_unknownOpcode_eq ho
    exact .inr (.inr ⟨(decode_eq_unknownOpcode_iff ..).mp ho, rfl⟩)

/-- Settles O7: the middle case of what a Step can do. -/
theorem stepRunsTheDecodedInstruction : Obligations.StepRunsTheDecodedInstruction := by
  unfold Obligations.StepRunsTheDecodedInstruction
  exact fun s i => step_of_instr

/-- Settles O9: the listed bytes are those the table leaves out. -/
theorem unknownOpcodeHalts : Obligations.UnknownOpcodeHalts := by
  unfold Obligations.UnknownOpcodeHalts
  exact fun s hs hmem => step_of_unknown hs ((dispatch_eq_none_iff _).mpr hmem)

/-- Settles O10: the record of the software break, and that the byte 00 decodes to BRK. -/
theorem brkSetsBreakAndHalts : Obligations.BrkSetsBreakAndHalts := by
  unfold Obligations.BrkSetsBreakAndHalts
  refine fun s => ⟨congrArg Host.Outcome.next (softwareBreak_next s), fun hs h0 => step_of_instr hs ?_⟩
  rw [decodedAtPc, h0]
  exact decode_opcode (i := .brk) rfl

/-- Settles O11: each of the three cases of a Step ends in a next state, and BRK alone writes RUN or the report. -/
theorem onlyBrkHaltsOnceDispatched : Obligations.OnlyBrkHaltsOnceDispatched := by
  unfold Obligations.OnlyBrkHaltsOnceDispatched
  refine ⟨fun s => ?_, fun i s t hi h => ⟨exec_keeps_run i s t hi h, exec_keeps_report h hi⟩⟩
  obtain ⟨-, hstep⟩ | ⟨-, i, -, hstep⟩ | ⟨-, o, -, hstep⟩ := step_cases s
  · exact ⟨_, hstep⟩
  · obtain ⟨t, ht⟩ := everyInstructionCompletes i s
    exact ⟨t, hstep.trans ht⟩
  · exact ⟨_, hstep⟩

/-- An instruction with a store address is one of those that store, with its operand in Memory. -/
theorem stores_of_storeAddr {i : Instr} {s : State} {a : Word} (h : storeAddr i s = some a) :
    storesToMemory i.mnemonic = true ∧ ∃ ad, i.operand = .mem ad := by
  unfold storeAddr at h
  cases hop : i.operand with
  | mem ad =>
    rw [hop] at h
    exact ⟨(Option.ite_none_right_eq_some.mp h).1, ad, rfl⟩
  | _ => rw [hop] at h; cases h

theorem not_mem_setsPc_of_stores {m : Mnemonic} (h : storesToMemory m = true) : m ∉ setsPc := by
  revert h
  cases m <;> decide

theorem addr_mode_ne_rel (ad : Addr) : ad.mode ≠ .rel := by
  cases ad <;> nofun

/-- Settles O14: the storing instruction advances PC to its own store address and writes its byte there. -/
theorem storedByteIsTheNextOpcode : Obligations.StoredByteIsTheNextOpcode := by
  unfold Obligations.StoredByteIsTheNextOpcode
  intro i s hs hd haddr
  obtain ⟨t, ht⟩ := everyInstructionCompletes i s
  obtain ⟨hstores, ad, hop⟩ := stores_of_storeAddr haddr
  have hmd : i.mode ≠ .rel := by
    rw [Instr.mode, hop]
    exact addr_mode_ne_rel ad
  have hpc := exec_pc ht (not_mem_setsPc_of_stores hstores) hmd
  have hi : i ≠ .brk := by
    rintro rfl
    cases hop
  refine ⟨t, (step_of_instr hs hd).trans ht, hpc, ?_, (exec_keeps_run i s t hi ht).trans hs⟩
  change t.memRead t.pc = _
  rw [exec_memRead ht, if_pos (hpc ▸ haddr)]

/-! ### The invariants of a Step -/

/-- Settles O15: an instruction writes at most one Memory byte, and a write keeps the canonical form. -/
theorem stepKeepsMemoryCanonical : Obligations.StepKeepsMemoryCanonical := by
  unfold Obligations.StepKeepsMemoryCanonical
  intro s t hwf h
  obtain rfl | ⟨-, i, -, hexec⟩ | ⟨-, rfl⟩ := step_next_cases h
  · exact hwf
  · obtain hmem | ⟨ad, v, -, hmem⟩ := exec_mem_cases i s t hexec
    · rwa [hmem]
    · rw [hmem]
      exact State.memWrite_wf s _ v hwf
  · exact hwf

/-- A push raises SP before it writes, so no instruction writes the bottom slot (R37, R170). -/
theorem exec_slot_zero {i : Instr} {s t : State} (h : exec i s = .next t) : t.slot 0 = s.slot 0 := by
  obtain hslot | ⟨-, hzero⟩ := exec_slot_cases h 0
  · exact hslot
  · exact absurd hzero.symm (pushSp_ne_zero s.sp)

/-- Settles O17: neither an instruction nor a halt writes the bottom slot. -/
theorem stepKeepsStackBottom : Obligations.StepKeepsStackBottom := by
  unfold Obligations.StepKeepsStackBottom
  intro s t h
  have hslot : t.slot 0 = s.slot 0 := by
    obtain rfl | ⟨-, i, -, hexec⟩ | ⟨-, rfl⟩ := step_next_cases h
    · rfl
    · exact exec_slot_zero hexec
    · rfl
  exact ⟨hslot, hslot.trans⟩

theorem haltReportConsistent_of_running {s : State} (hs : s.run = .running) :
    HaltReportConsistent s ↔ s.haltCause = .none ∧ s.haltPc = 0x0000#16 ∧ s.haltOpcode = 0x00#8 := by
  rw [HaltReportConsistent, hs]

/-- Settles O18: BRK reports its own byte, an unknown opcode is one without a row, and no other instruction writes RUN
or the report. -/
theorem stepKeepsHaltReport : Obligations.StepKeepsHaltReport := by
  unfold Obligations.StepKeepsHaltReport
  intro s t hrep h
  obtain rfl | ⟨hs, i, hd, hexec⟩ | ⟨hnone, rfl⟩ := step_next_cases h
  · exact hrep
  · by_cases hi : i = .brk
    · subst hi
      injection hexec with hexec
      subst hexec
      exact ⟨rfl, opcode_of_decode hd, .inr ⟨rfl, rfl, rfl⟩⟩
    · obtain ⟨hcause, hpc, hopcode⟩ := exec_keeps_report hexec hi
      rw [haltReportConsistent_of_running ((exec_keeps_run i s t hi hexec).trans hs), hcause, hpc, hopcode]
      exact (haltReportConsistent_of_running hs).mp hrep
  · exact ⟨rfl, rfl, .inl ⟨rfl, Option.isNone_iff_eq_none.mpr hnone⟩⟩

theorem Safe.step {s t : State} (hsafe : Safe s) (h : step s = .next t) : Safe t := by
  obtain ⟨hwf, hbottom, hrep⟩ := hsafe
  exact ⟨stepKeepsMemoryCanonical s t hwf h, (stepKeepsStackBottom s t h).2 hbottom, stepKeepsHaltReport s t hrep h⟩

/-- RESET clears the report and keeps Memory and the stack (R240, R241). -/
theorem Safe.resetEvent {s : State} (hsafe : Safe s) (p : Word) : Safe (resetEvent p s) := by
  obtain ⟨hwf, hbottom, -⟩ := hsafe
  exact ⟨hwf, hbottom, rfl, rfl, rfl⟩

/-- Settles O20: blank Memory is the empty list, and nothing is reported. -/
theorem resetIsSafe : Obligations.ResetIsSafe := by
  unfold Obligations.ResetIsSafe
  exact ⟨rfl, rfl, rfl, rfl, rfl⟩

theorem boot_safe (loadAddr startPc : Word) (program : List Byte) : Safe (boot loadAddr startPc program) := by
  obtain ⟨hwf, hbottom, -⟩ := resetIsSafe
  exact ⟨loadProgram_wf program loadAddr.toNat [] hwf, hbottom, rfl, rfl, rfl⟩

theorem Safe.clock {s t : State} (hsafe : Safe s) (inp : Inputs) (h : clock inp s = .next t) : Safe t := by
  obtain ⟨_ | p, _ | _⟩ := inp
  · cases h
    exact hsafe
  · exact hsafe.step h
  all_goals
    cases h
    exact hsafe.resetEvent p

/-- Settles O19: by induction on the events, each of which keeps a safe state safe. -/
theorem reachableStatesAreSafe : Obligations.ReachableStatesAreSafe := by
  unfold Obligations.ReachableStatesAreSafe
  intro s hreach
  induction hreach with
  | boot loadAddr startPc program => exact boot_safe loadAddr startPc program
  | event inp _ hclock ih => exact ih.clock inp hclock

/-! ### Canonical memories -/

theorem Memory.read_cons (k : Nat) (v : Byte) (m : Memory) (a : Nat) :
    Memory.read ((k, v) :: m) a = if k = a then v else m.read a := rfl

/-- The first entry of a canonical Memory tells its address from an unlisted one, so a canonical Memory that reads alike
there does not begin later. -/
theorem Memory.head_not_lt {lo lo' k k' : Nat} {v v' : Byte} {m m' : Memory}
    (h : Memory.wfFrom lo ((k, v) :: m) = true) (h' : Memory.wfFrom lo' ((k', v') :: m') = true)
    (hread : Memory.read ((k, v) :: m) k = Memory.read ((k', v') :: m') k) : ¬ k < k' := by
  intro hlt
  obtain ⟨-, -, hv, -⟩ := (Memory.wfFrom_cons ..).mp h
  obtain ⟨-, hk', hv', hm'⟩ := (Memory.wfFrom_cons ..).mp h'
  rw [Memory.read_cons, if_pos rfl,
    Memory.read_below _ k' k ((Memory.wfFrom_cons ..).mpr ⟨le_rfl, hk', hv', hm'⟩) hlt] at hread
  exact hv hread

theorem Memory.eq_of_read_eq {m m' : Memory} {lo lo' : Nat} (h : m.wfFrom lo = true) (h' : m'.wfFrom lo' = true)
    (hread : ∀ a < memSize, m.read a = m'.read a) : m = m' := by
  induction m generalizing m' lo lo' with
  | nil =>
    cases m' with
    | nil => rfl
    | cons p m' =>
      obtain ⟨k, v⟩ := p
      obtain ⟨-, hk, hv, -⟩ := (Memory.wfFrom_cons ..).mp h'
      have hkv := hread k hk
      rw [Memory.read_cons, if_pos rfl] at hkv
      exact absurd hkv.symm hv
  | cons p m ih =>
    obtain ⟨k, v⟩ := p
    obtain ⟨-, hk, hv, hm⟩ := (Memory.wfFrom_cons ..).mp h
    cases m' with
    | nil =>
      have hkv := hread k hk
      rw [Memory.read_cons, if_pos rfl] at hkv
      exact absurd hkv hv
    | cons p' m' =>
      obtain ⟨k', v'⟩ := p'
      obtain ⟨-, hk', -, hm'⟩ := (Memory.wfFrom_cons ..).mp h'
      obtain rfl : k = k' := le_antisymm
        (not_lt.mp (Memory.head_not_lt h' h (hread k' hk').symm)) (not_lt.mp (Memory.head_not_lt h h' (hread k hk)))
      have hhead : v = v' := by simpa [Memory.read_cons] using hread k hk
      have htail : m = m' := ih hm hm' fun a ha => by
        by_cases hak : k = a
        · subst hak
          rw [Memory.read_below m _ k hm k.lt_succ_self, Memory.read_below m' _ k hm' k.lt_succ_self]
        · simpa [Memory.read_cons, hak] using hread a ha
      rw [hhead, htail]

/-- Settles O16: by induction on the lists, whose first entries have to be the same. -/
theorem canonicalMemoriesAreEqualData : Obligations.CanonicalMemoriesAreEqualData := by
  unfold Obligations.CanonicalMemoriesAreEqualData
  exact fun m m' h h' hread => Memory.eq_of_read_eq h h' fun a ha => hread (BitVec.ofNatLT a ha)

/-! ### Power-on, RESET and the outputs -/

/-- Settles O21: every field of the power-on state, the slots by index. -/
theorem powerOnState : Obligations.PowerOnState := by
  unfold Obligations.PowerOnState
  have hslot (j : Byte) : State.reset.slot j = 0 := Vector.getElem_replicate j.isLt
  exact ⟨rfl, rfl, rfl, rfl, rfl, rfl, hslot, fun _ => rfl, rfl, rfl, rfl, rfl, rfl⟩

/-- Settles O22: RESET is the power-on state with PC, the stack and Memory put in. -/
theorem resetEventReinitializes : Obligations.ResetEventReinitializes := by
  unfold Obligations.ResetEventReinitializes
  exact fun _ _ => rfl

/-- Settles O23: the three input combinations. -/
theorem resetWinsOverStep : Obligations.ResetWinsOverStep := by
  unfold Obligations.ResetWinsOverStep
  exact fun _ _ _ => ⟨rfl, rfl, rfl⟩

/-- Settles O26: HALTED decides RUN, and HALT_CAUSE is the code of the cause. -/
theorem haltOutputs : Obligations.HaltOutputs := by
  unfold Obligations.HaltOutputs
  refine ⟨fun s => decide_eq_true_iff, rfl, rfl, rfl, fun s => ?_⟩
  rw [State.haltCauseCode]
  cases s.haltCause <;> rfl

/-! ### Program load and byte injection -/

/-- One byte of a load: written where there is Memory, dropped past its end (R63, C13). -/
theorem read_loadByte (m : Memory) (addr a : Nat) (byte : Byte) (ha : a < memSize) :
    Memory.read (if addr < memSize then m.write addr byte else m) a = if a = addr then byte else m.read a := by
  by_cases haddr : addr < memSize
  · rw [if_pos haddr, Memory.read_write]
  · rw [if_neg haddr, if_neg (by omega)]

theorem read_loadProgram (program : List Byte) (l a : Nat) (m : Memory) (ha : a < memSize) :
    (loadProgram program l m).read a = if l ≤ a then program.getD (a - l) (m.read a) else m.read a := by
  induction program generalizing l m with
  | nil => simp [loadProgram]
  | cons byte rest ih =>
    rw [loadProgram, ih, read_loadByte m l a byte ha]
    obtain hlt | rfl | hgt := lt_trichotomy a l
    · rw [if_neg (by omega), if_neg (by omega), if_neg (by omega)]
    · rw [if_neg (by omega), if_pos rfl, if_pos le_rfl, Nat.sub_self, List.getD_cons_zero]
    · obtain ⟨n, rfl⟩ := Nat.exists_eq_add_of_lt hgt
      rw [if_pos (by omega), if_neg (by omega), if_pos (by omega), show l + n + 1 - l = n + 1 by omega,
        show l + n + 1 - (l + 1) = n by omega, List.getD_cons_succ]

/-- Settles O24: by induction on the program; `boot` is a load into blank Memory and a RESET. -/
theorem programLoadFillsAndDrops : Obligations.ProgramLoadFillsAndDrops := by
  unfold Obligations.ProgramLoadFillsAndDrops
  exact ⟨fun program l m a => read_loadProgram program l.toNat a.toNat m a.isLt, fun _ _ _ => ⟨rfl, rfl, rfl⟩⟩

theorem eq_zext16_iff (a : Word) (q : Byte) : a = zext16 q ↔ a.toNat = q.toNat := by
  rw [← BitVec.toNat_inj, zext16_toNat]

/-- Settles O25: two Memory writes, the second read first. -/
theorem injectionWritesTwoZeroPageBytes : Obligations.InjectionWritesTwoZeroPageBytes := by
  unfold Obligations.InjectionWritesTwoZeroPageBytes
  refine fun p q v0 v1 s => ⟨fun a => ?_, rfl, rfl, rfl⟩
  simp only [injectAt, State.memRead_memWrite, eq_zext16_iff]

end Sys2Proof.Machine
end
